-- ==== Sys2Proof/Word.lean ====
section
/-! DEFINITION. The word types and the closed field enumerations of the instruction set (00_scope.md R7, R13; 30_encoding.md). -/

namespace Sys2Proof

/-- An 8-bit value: a memory cell, ACC, IR, MSB or LSB (R15 to R21). -/
abbrev Byte := BitVec 8

/-- A 16-bit value: an address, MAR, PC or the latch pair (R15 to R21). -/
abbrev Word := BitVec 16

/-- The value recorded with an error. It must hold 0x10000 (R140); the spec states no width (DESIGN CHOICE, log 7). -/
abbrev ErrInfo := BitVec 17

/-- The families of R47. `unclassified` is the classifier's last arm; no opcode reaches it (R48). -/
inductive Family where
  | alu
  | mem
  | br
  | unclassified
deriving DecidableEq, Repr

/-- `func = code[6:4]`, in the enumeration order of R49. -/
inductive AluFunc where
  | and
  | or
  | xor
  | add
  | sub
  | inc
  | dec
  | not
deriving DecidableEq, Repr

/-- The destination enumeration `dest = code[3:2]` (R50): `[MAR]`, ACC, MAR (`MAR_ADR`), `[a16]`. -/
inductive Dest where
  | ind
  | acc
  | mar
  | abs
deriving DecidableEq, Repr

/-- The source enumeration `sour = code[1:0]` (R51): `[MAR]`, ACC, `#imm` (`CONST_ADR`), `[a16]`. A type of its own, as R13 asks. -/
inductive Src where
  | ind
  | acc
  | imm
  | abs
deriving DecidableEq, Repr

/-- `direction = code[3]` of a memory transfer (R53). -/
inductive Direction where
  | store
  | load
deriving DecidableEq, Repr

/-- `register = code[2]` of a memory transfer (R54). -/
inductive MemReg where
  | acc
  | mar
deriving DecidableEq, Repr

/-- `method = code[1:0]` of a memory transfer (R55, R62): absolute, immediate, indirect via MAR; 3 is undefined (R64). -/
inductive Method where
  | abs
  | imm
  | ind
  | undef
deriving DecidableEq, Repr

/-- `type = code[2:0]` of a branch (R56); `br7` is type 7, which has no condition (R65). -/
inductive BrType where
  | bra
  | brz
  | bnz
  | blt
  | ble
  | bgt
  | bge
  | br7
deriving DecidableEq, Repr

/-- The fields of an opcode that select what execute does (R49 to R56). -/
inductive Op where
  | alu (f : AluFunc) (d : Dest) (s : Src)
  | mem (d : Direction) (r : MemReg) (m : Method)
  | br (t : BrType)
deriving DecidableEq, Repr

/-- A run of trailing bytes read for one purpose (R46): a 1-byte constant, or a 2-byte constant or address, MSB first. -/
inductive Group where
  | byte (v : Byte)
  | word (v : Word)
deriving DecidableEq, Repr

/-- The operation width of R52. -/
inductive Width where
  | w8
  | w16
deriving DecidableEq, Repr

/-- The width in bits. -/
abbrev Width.bits : Width → Nat
  | .w8 => 8
  | .w16 => 16

end Sys2Proof
end

