-- ==== Sys2Proof/Config.lean ====
section
/-! DEFINITION. What one machine fixes: the parameters of spec/93_implementation_defined.md with the spec's defaults, and what a
memory cell that nothing has set reads as. -/

namespace Sys2Proof.Config

/-- I1, 90_conflicts.md C1: which register bit 2 = 0 of a memory transfer selects. -/
inductive MemRegPolarity where
  /-- 0 = ACC, 1 = MAR: the default, which the whole spec uses (R54). -/
  | accIsZero
  /-- 0 = MAR, 1 = ACC: the prose polarity of the source. -/
  | marIsZero
deriving DecidableEq, Repr

/-- I2, D8: the high byte of MAR after an 8-bit operation whose destination is MAR. -/
inductive Mar8HighByte where
  /-- `MAR <- zext_16(r)`: the default (R89). -/
  | zero
  /-- `MAR <- MAR[15:8] : r`. -/
  | keep
deriving DecidableEq, Repr

/-- DESIGN CHOICE (the spec's, C1 and I1; log 19). -/
def memRegPolarity : MemRegPolarity := .accIsZero

/-- DESIGN CHOICE (the spec's, D8 and I2; log 13). -/
def mar8HighByte : Mar8HighByte := .zero

/-- The driver's halt value (I13, D14). The core gives it no meaning (R136). DESIGN CHOICE (the spec's default; log 21). -/
def haltOpcode : Byte := 0x19#8

/-- What a cell reads as that neither the image nor a store has set. R28 leaves it unspecified. DESIGN CHOICE, unsafe (log 1). -/
def unlistedByte : Byte := 0x00#8

end Sys2Proof.Config
end

