-- ==== Sys2Proof/Syntax.lean ====
section
/-! DEFINITION. The instruction syntax: one constructor for each of the 152 rows of spec/opcode_table.json.

An operand of a constructor is a trailing group of the instruction (R57 to R59): `dst` and `src` are 2-byte addresses, `imm` a
constant of the instruction's width, `addr` the absolute address of a transfer, `target` a branch target. A branch also keeps `b`,
bits 6:3 of its opcode, which no rule reads but which IR and the encoding hold (R66). Nothing else of an encoding is left
over, so an instruction has exactly one encoding. -/

namespace Sys2Proof

/-- The instructions, in the order of the opcode table (ALU, MEM, BR). -/
inductive Instr where
  /-- `0x80` AND [MAR], [MAR] (R92). -/
  | andIndInd
  /-- `0x81` AND [MAR], ACC (R92). -/
  | andIndAcc
  /-- `0x82` AND [MAR], #i16 (R92). -/
  | andIndImm (imm : Word)
  /-- `0x83` AND [MAR], [a16] (R92). -/
  | andIndAbs (src : Word)
  /-- `0x84` AND ACC, [MAR] (R92). -/
  | andAccInd
  /-- `0x85` AND ACC, ACC (R92). -/
  | andAccAcc
  /-- `0x86` AND ACC, #i8 (R92). -/
  | andAccImm (imm : Byte)
  /-- `0x87` AND ACC, [a16] (R92). -/
  | andAccAbs (src : Word)
  /-- `0x88` AND MAR, [MAR] (R92). -/
  | andMarInd
  /-- `0x89` AND MAR, ACC (R92). -/
  | andMarAcc
  /-- `0x8A` AND MAR, #i16 (R92). -/
  | andMarImm (imm : Word)
  /-- `0x8B` AND MAR, [a16] (R92). -/
  | andMarAbs (src : Word)
  /-- `0x8C` AND [a16], [MAR] (R92). -/
  | andAbsInd (dst : Word)
  /-- `0x8D` AND [a16], ACC (R92). -/
  | andAbsAcc (dst : Word)
  /-- `0x8E` AND [a16], #i16 (R92). -/
  | andAbsImm (dst : Word) (imm : Word)
  /-- `0x8F` AND [a16], [a16] (R92). -/
  | andAbsAbs (dst : Word) (src : Word)
  /-- `0x90` OR [MAR], [MAR] (R93). -/
  | orIndInd
  /-- `0x91` OR [MAR], ACC (R93). -/
  | orIndAcc
  /-- `0x92` OR [MAR], #i16 (R93). -/
  | orIndImm (imm : Word)
  /-- `0x93` OR [MAR], [a16] (R93). -/
  | orIndAbs (src : Word)
  /-- `0x94` OR ACC, [MAR] (R93). -/
  | orAccInd
  /-- `0x95` OR ACC, ACC (R93). -/
  | orAccAcc
  /-- `0x96` OR ACC, #i8 (R93). -/
  | orAccImm (imm : Byte)
  /-- `0x97` OR ACC, [a16] (R93). -/
  | orAccAbs (src : Word)
  /-- `0x98` OR MAR, [MAR] (R93). -/
  | orMarInd
  /-- `0x99` OR MAR, ACC (R93). -/
  | orMarAcc
  /-- `0x9A` OR MAR, #i16 (R93). -/
  | orMarImm (imm : Word)
  /-- `0x9B` OR MAR, [a16] (R93). -/
  | orMarAbs (src : Word)
  /-- `0x9C` OR [a16], [MAR] (R93). -/
  | orAbsInd (dst : Word)
  /-- `0x9D` OR [a16], ACC (R93). -/
  | orAbsAcc (dst : Word)
  /-- `0x9E` OR [a16], #i16 (R93). -/
  | orAbsImm (dst : Word) (imm : Word)
  /-- `0x9F` OR [a16], [a16] (R93). -/
  | orAbsAbs (dst : Word) (src : Word)
  /-- `0xA0` XOR [MAR], [MAR] (R94). -/
  | xorIndInd
  /-- `0xA1` XOR [MAR], ACC (R94). -/
  | xorIndAcc
  /-- `0xA2` XOR [MAR], #i16 (R94). -/
  | xorIndImm (imm : Word)
  /-- `0xA3` XOR [MAR], [a16] (R94). -/
  | xorIndAbs (src : Word)
  /-- `0xA4` XOR ACC, [MAR] (R94). -/
  | xorAccInd
  /-- `0xA5` XOR ACC, ACC (R94). -/
  | xorAccAcc
  /-- `0xA6` XOR ACC, #i8 (R94). -/
  | xorAccImm (imm : Byte)
  /-- `0xA7` XOR ACC, [a16] (R94). -/
  | xorAccAbs (src : Word)
  /-- `0xA8` XOR MAR, [MAR] (R94). -/
  | xorMarInd
  /-- `0xA9` XOR MAR, ACC (R94). -/
  | xorMarAcc
  /-- `0xAA` XOR MAR, #i16 (R94). -/
  | xorMarImm (imm : Word)
  /-- `0xAB` XOR MAR, [a16] (R94). -/
  | xorMarAbs (src : Word)
  /-- `0xAC` XOR [a16], [MAR] (R94). -/
  | xorAbsInd (dst : Word)
  /-- `0xAD` XOR [a16], ACC (R94). -/
  | xorAbsAcc (dst : Word)
  /-- `0xAE` XOR [a16], #i16 (R94). -/
  | xorAbsImm (dst : Word) (imm : Word)
  /-- `0xAF` XOR [a16], [a16] (R94). -/
  | xorAbsAbs (dst : Word) (src : Word)
  /-- `0xB0` ADD [MAR], [MAR] (R95). -/
  | addIndInd
  /-- `0xB1` ADD [MAR], ACC (R95). -/
  | addIndAcc
  /-- `0xB2` ADD [MAR], #i16 (R95). -/
  | addIndImm (imm : Word)
  /-- `0xB3` ADD [MAR], [a16] (R95). -/
  | addIndAbs (src : Word)
  /-- `0xB4` ADD ACC, [MAR] (R95). -/
  | addAccInd
  /-- `0xB5` ADD ACC, ACC (R95). -/
  | addAccAcc
  /-- `0xB6` ADD ACC, #i8 (R95). -/
  | addAccImm (imm : Byte)
  /-- `0xB7` ADD ACC, [a16] (R95). -/
  | addAccAbs (src : Word)
  /-- `0xB8` ADD MAR, [MAR] (R95). -/
  | addMarInd
  /-- `0xB9` ADD MAR, ACC (R95). -/
  | addMarAcc
  /-- `0xBA` ADD MAR, #i16 (R95). -/
  | addMarImm (imm : Word)
  /-- `0xBB` ADD MAR, [a16] (R95). -/
  | addMarAbs (src : Word)
  /-- `0xBC` ADD [a16], [MAR] (R95). -/
  | addAbsInd (dst : Word)
  /-- `0xBD` ADD [a16], ACC (R95). -/
  | addAbsAcc (dst : Word)
  /-- `0xBE` ADD [a16], #i16 (R95). -/
  | addAbsImm (dst : Word) (imm : Word)
  /-- `0xBF` ADD [a16], [a16] (R95). -/
  | addAbsAbs (dst : Word) (src : Word)
  /-- `0xC0` SUB [MAR], [MAR] (R96). -/
  | subIndInd
  /-- `0xC1` SUB [MAR], ACC (R96). -/
  | subIndAcc
  /-- `0xC2` SUB [MAR], #i16 (R96). -/
  | subIndImm (imm : Word)
  /-- `0xC3` SUB [MAR], [a16] (R96). -/
  | subIndAbs (src : Word)
  /-- `0xC4` SUB ACC, [MAR] (R96). -/
  | subAccInd
  /-- `0xC5` SUB ACC, ACC (R96). -/
  | subAccAcc
  /-- `0xC6` SUB ACC, #i8 (R96). -/
  | subAccImm (imm : Byte)
  /-- `0xC7` SUB ACC, [a16] (R96). -/
  | subAccAbs (src : Word)
  /-- `0xC8` SUB MAR, [MAR] (R96). -/
  | subMarInd
  /-- `0xC9` SUB MAR, ACC (R96). -/
  | subMarAcc
  /-- `0xCA` SUB MAR, #i16 (R96). -/
  | subMarImm (imm : Word)
  /-- `0xCB` SUB MAR, [a16] (R96). -/
  | subMarAbs (src : Word)
  /-- `0xCC` SUB [a16], [MAR] (R96). -/
  | subAbsInd (dst : Word)
  /-- `0xCD` SUB [a16], ACC (R96). -/
  | subAbsAcc (dst : Word)
  /-- `0xCE` SUB [a16], #i16 (R96). -/
  | subAbsImm (dst : Word) (imm : Word)
  /-- `0xCF` SUB [a16], [a16] (R96). -/
  | subAbsAbs (dst : Word) (src : Word)
  /-- `0xD0` INC [MAR], [MAR] (R97). -/
  | incIndInd
  /-- `0xD1` INC [MAR], ACC (R97). -/
  | incIndAcc
  /-- `0xD2` INC [MAR], #i16 (R97). -/
  | incIndImm (imm : Word)
  /-- `0xD3` INC [MAR], [a16] (R97). -/
  | incIndAbs (src : Word)
  /-- `0xD4` INC ACC, [MAR] (R97). -/
  | incAccInd
  /-- `0xD5` INC ACC, ACC (R97). -/
  | incAccAcc
  /-- `0xD6` INC ACC, #i8 (R97). -/
  | incAccImm (imm : Byte)
  /-- `0xD7` INC ACC, [a16] (R97). -/
  | incAccAbs (src : Word)
  /-- `0xD8` INC MAR, [MAR] (R97). -/
  | incMarInd
  /-- `0xD9` INC MAR, ACC (R97). -/
  | incMarAcc
  /-- `0xDA` INC MAR, #i16 (R97). -/
  | incMarImm (imm : Word)
  /-- `0xDB` INC MAR, [a16] (R97). -/
  | incMarAbs (src : Word)
  /-- `0xDC` INC [a16], [MAR] (R97). -/
  | incAbsInd (dst : Word)
  /-- `0xDD` INC [a16], ACC (R97). -/
  | incAbsAcc (dst : Word)
  /-- `0xDE` INC [a16], #i16 (R97). -/
  | incAbsImm (dst : Word) (imm : Word)
  /-- `0xDF` INC [a16], [a16] (R97). -/
  | incAbsAbs (dst : Word) (src : Word)
  /-- `0xE0` DEC [MAR], [MAR] (R98). -/
  | decIndInd
  /-- `0xE1` DEC [MAR], ACC (R98). -/
  | decIndAcc
  /-- `0xE2` DEC [MAR], #i16 (R98). -/
  | decIndImm (imm : Word)
  /-- `0xE3` DEC [MAR], [a16] (R98). -/
  | decIndAbs (src : Word)
  /-- `0xE4` DEC ACC, [MAR] (R98). -/
  | decAccInd
  /-- `0xE5` DEC ACC, ACC (R98). -/
  | decAccAcc
  /-- `0xE6` DEC ACC, #i8 (R98). -/
  | decAccImm (imm : Byte)
  /-- `0xE7` DEC ACC, [a16] (R98). -/
  | decAccAbs (src : Word)
  /-- `0xE8` DEC MAR, [MAR] (R98). -/
  | decMarInd
  /-- `0xE9` DEC MAR, ACC (R98). -/
  | decMarAcc
  /-- `0xEA` DEC MAR, #i16 (R98). -/
  | decMarImm (imm : Word)
  /-- `0xEB` DEC MAR, [a16] (R98). -/
  | decMarAbs (src : Word)
  /-- `0xEC` DEC [a16], [MAR] (R98). -/
  | decAbsInd (dst : Word)
  /-- `0xED` DEC [a16], ACC (R98). -/
  | decAbsAcc (dst : Word)
  /-- `0xEE` DEC [a16], #i16 (R98). -/
  | decAbsImm (dst : Word) (imm : Word)
  /-- `0xEF` DEC [a16], [a16] (R98). -/
  | decAbsAbs (dst : Word) (src : Word)
  /-- `0xF0` NOT [MAR], [MAR] (R99). -/
  | notIndInd
  /-- `0xF1` NOT [MAR], ACC (R99). -/
  | notIndAcc
  /-- `0xF2` NOT [MAR], #i16 (R99). -/
  | notIndImm (imm : Word)
  /-- `0xF3` NOT [MAR], [a16] (R99). -/
  | notIndAbs (src : Word)
  /-- `0xF4` NOT ACC, [MAR] (R99). -/
  | notAccInd
  /-- `0xF5` NOT ACC, ACC (R99). -/
  | notAccAcc
  /-- `0xF6` NOT ACC, #i8 (R99). -/
  | notAccImm (imm : Byte)
  /-- `0xF7` NOT ACC, [a16] (R99). -/
  | notAccAbs (src : Word)
  /-- `0xF8` NOT MAR, [MAR] (R99). -/
  | notMarInd
  /-- `0xF9` NOT MAR, ACC (R99). -/
  | notMarAcc
  /-- `0xFA` NOT MAR, #i16 (R99). -/
  | notMarImm (imm : Word)
  /-- `0xFB` NOT MAR, [a16] (R99). -/
  | notMarAbs (src : Word)
  /-- `0xFC` NOT [a16], [MAR] (R99). -/
  | notAbsInd (dst : Word)
  /-- `0xFD` NOT [a16], ACC (R99). -/
  | notAbsAcc (dst : Word)
  /-- `0xFE` NOT [a16], #i16 (R99). -/
  | notAbsImm (dst : Word) (imm : Word)
  /-- `0xFF` NOT [a16], [a16] (R99). -/
  | notAbsAbs (dst : Word) (src : Word)
  /-- `0x00` STORE ACC, [a16] (R110). -/
  | storeAccAbs (addr : Word)
  /-- `0x01` STORE ACC, #imm (raises UnresolvedAddress) (R114). -/
  | storeAccImm (imm : Byte)
  /-- `0x02` STORE ACC, [MAR] (R111). -/
  | storeAccInd
  /-- `0x03` STORE ACC, method 3 (raises UnresolvedAddress) (R115). -/
  | storeAccMethod3
  /-- `0x04` STORE MAR, [a16] (R112). -/
  | storeMarAbs (addr : Word)
  /-- `0x05` STORE MAR, #imm (raises UnresolvedAddress) (R114). -/
  | storeMarImm (imm : Word)
  /-- `0x06` STORE MAR, [MAR] (R113). -/
  | storeMarInd
  /-- `0x07` STORE MAR, method 3 (raises UnresolvedAddress) (R115). -/
  | storeMarMethod3
  /-- `0x08` LOAD ACC, [a16] (R104). -/
  | loadAccAbs (addr : Word)
  /-- `0x09` LOAD ACC, #i8 (R105). -/
  | loadAccImm (imm : Byte)
  /-- `0x0A` LOAD ACC, [MAR] (R106). -/
  | loadAccInd
  /-- `0x0B` LOAD ACC, method 3 (raises UnresolvedAddress) (R115). -/
  | loadAccMethod3
  /-- `0x0C` LOAD MAR, [a16] (R107). -/
  | loadMarAbs (addr : Word)
  /-- `0x0D` LOAD MAR, #i16 (R108). -/
  | loadMarImm (imm : Word)
  /-- `0x0E` LOAD MAR, [MAR] (R109). -/
  | loadMarInd
  /-- `0x0F` LOAD MAR, method 3 (raises UnresolvedAddress) (R115). -/
  | loadMarMethod3
  /-- `0bbbb000, canonical 0x10` BRA t16 (R119). -/
  | bra (b : BitVec 4) (target : Word)
  /-- `0bbbb001, canonical 0x11` BRZ t16 (R120). -/
  | brz (b : BitVec 4) (target : Word)
  /-- `0bbbb010, canonical 0x12` BNZ t16 (R121). -/
  | bnz (b : BitVec 4) (target : Word)
  /-- `0bbbb011, canonical 0x13` BLT t16 (R122). -/
  | blt (b : BitVec 4) (target : Word)
  /-- `0bbbb100, canonical 0x14` BLE t16 (R123). -/
  | ble (b : BitVec 4) (target : Word)
  /-- `0bbbb101, canonical 0x15` BGT t16 (R124). -/
  | bgt (b : BitVec 4) (target : Word)
  /-- `0bbbb110, canonical 0x16` BGE t16 (R125). -/
  | bge (b : BitVec 4) (target : Word)
  /-- `0bbbb111, canonical 0x17` STORE MAR, method 3 (R126). -/
  | br7 (b : BitVec 4) (target : Word)
deriving DecidableEq, Repr

end Sys2Proof
end

