-- ==== Sys2Proof/WellFormed.lean ====
section
/-! DEFINITION. Which instruction terms have an encoding. -/

namespace Sys2Proof

/-- Bits 6:3 of a branch opcode: `code[6:4]` is not 000, or the byte would be a MEM opcode (R47, R56). The 14 values 0b0010 to
0b1111 remain (R66). -/
def branchBitsOk (b : BitVec 4) : Bool := b.extractLsb' 1 3 != 0#3

/-- The one condition the encoding puts on a term: a branch's bits 6:3 are those of a branch. Every other operand is a byte or a
word and may hold any value (R61). -/
def Instr.wellFormed : Instr → Bool
  | .andIndInd => true
  | .andIndAcc => true
  | .andIndImm _ => true
  | .andIndAbs _ => true
  | .andAccInd => true
  | .andAccAcc => true
  | .andAccImm _ => true
  | .andAccAbs _ => true
  | .andMarInd => true
  | .andMarAcc => true
  | .andMarImm _ => true
  | .andMarAbs _ => true
  | .andAbsInd _ => true
  | .andAbsAcc _ => true
  | .andAbsImm _ _ => true
  | .andAbsAbs _ _ => true
  | .orIndInd => true
  | .orIndAcc => true
  | .orIndImm _ => true
  | .orIndAbs _ => true
  | .orAccInd => true
  | .orAccAcc => true
  | .orAccImm _ => true
  | .orAccAbs _ => true
  | .orMarInd => true
  | .orMarAcc => true
  | .orMarImm _ => true
  | .orMarAbs _ => true
  | .orAbsInd _ => true
  | .orAbsAcc _ => true
  | .orAbsImm _ _ => true
  | .orAbsAbs _ _ => true
  | .xorIndInd => true
  | .xorIndAcc => true
  | .xorIndImm _ => true
  | .xorIndAbs _ => true
  | .xorAccInd => true
  | .xorAccAcc => true
  | .xorAccImm _ => true
  | .xorAccAbs _ => true
  | .xorMarInd => true
  | .xorMarAcc => true
  | .xorMarImm _ => true
  | .xorMarAbs _ => true
  | .xorAbsInd _ => true
  | .xorAbsAcc _ => true
  | .xorAbsImm _ _ => true
  | .xorAbsAbs _ _ => true
  | .addIndInd => true
  | .addIndAcc => true
  | .addIndImm _ => true
  | .addIndAbs _ => true
  | .addAccInd => true
  | .addAccAcc => true
  | .addAccImm _ => true
  | .addAccAbs _ => true
  | .addMarInd => true
  | .addMarAcc => true
  | .addMarImm _ => true
  | .addMarAbs _ => true
  | .addAbsInd _ => true
  | .addAbsAcc _ => true
  | .addAbsImm _ _ => true
  | .addAbsAbs _ _ => true
  | .subIndInd => true
  | .subIndAcc => true
  | .subIndImm _ => true
  | .subIndAbs _ => true
  | .subAccInd => true
  | .subAccAcc => true
  | .subAccImm _ => true
  | .subAccAbs _ => true
  | .subMarInd => true
  | .subMarAcc => true
  | .subMarImm _ => true
  | .subMarAbs _ => true
  | .subAbsInd _ => true
  | .subAbsAcc _ => true
  | .subAbsImm _ _ => true
  | .subAbsAbs _ _ => true
  | .incIndInd => true
  | .incIndAcc => true
  | .incIndImm _ => true
  | .incIndAbs _ => true
  | .incAccInd => true
  | .incAccAcc => true
  | .incAccImm _ => true
  | .incAccAbs _ => true
  | .incMarInd => true
  | .incMarAcc => true
  | .incMarImm _ => true
  | .incMarAbs _ => true
  | .incAbsInd _ => true
  | .incAbsAcc _ => true
  | .incAbsImm _ _ => true
  | .incAbsAbs _ _ => true
  | .decIndInd => true
  | .decIndAcc => true
  | .decIndImm _ => true
  | .decIndAbs _ => true
  | .decAccInd => true
  | .decAccAcc => true
  | .decAccImm _ => true
  | .decAccAbs _ => true
  | .decMarInd => true
  | .decMarAcc => true
  | .decMarImm _ => true
  | .decMarAbs _ => true
  | .decAbsInd _ => true
  | .decAbsAcc _ => true
  | .decAbsImm _ _ => true
  | .decAbsAbs _ _ => true
  | .notIndInd => true
  | .notIndAcc => true
  | .notIndImm _ => true
  | .notIndAbs _ => true
  | .notAccInd => true
  | .notAccAcc => true
  | .notAccImm _ => true
  | .notAccAbs _ => true
  | .notMarInd => true
  | .notMarAcc => true
  | .notMarImm _ => true
  | .notMarAbs _ => true
  | .notAbsInd _ => true
  | .notAbsAcc _ => true
  | .notAbsImm _ _ => true
  | .notAbsAbs _ _ => true
  | .storeAccAbs _ => true
  | .storeAccImm _ => true
  | .storeAccInd => true
  | .storeAccMethod3 => true
  | .storeMarAbs _ => true
  | .storeMarImm _ => true
  | .storeMarInd => true
  | .storeMarMethod3 => true
  | .loadAccAbs _ => true
  | .loadAccImm _ => true
  | .loadAccInd => true
  | .loadAccMethod3 => true
  | .loadMarAbs _ => true
  | .loadMarImm _ => true
  | .loadMarInd => true
  | .loadMarMethod3 => true
  | .bra b _ => branchBitsOk b
  | .brz b _ => branchBitsOk b
  | .bnz b _ => branchBitsOk b
  | .blt b _ => branchBitsOk b
  | .ble b _ => branchBitsOk b
  | .bgt b _ => branchBitsOk b
  | .bge b _ => branchBitsOk b
  | .br7 b _ => branchBitsOk b

end Sys2Proof
end

