-- ==== Sys2Proof/Decode.lean ====
section
/-! DEFINITION. Decoding and encoding (30_encoding.md).

The decoder goes from the bits of the opcode byte to fields (R47 to R56), from the fields to the constructor, and takes the
trailing groups of R57 to R59. The encoder goes the other way, from a literal opcode for each row of the opcode table; the two
are written separately. `pol` is the parameter I1; `decode`, `encode`, `opcode` and `trailingCount` fix it to Config's value. -/

namespace Sys2Proof

/-! ### Byte order (R10, R31, R32) -/

/-- Bits 15:8 of a word. -/
def hiByte (w : Word) : Byte := w.extractLsb' 8 8

/-- Bits 7:0 of a word. -/
def loByte (w : Word) : Byte := w.extractLsb' 0 8

/-- `hi:lo`, with `hi` in bits 15:8 (R10). -/
def joinBytes (hi lo : Byte) : Word := hi ++ lo

/-! ### The classifier and the fields -/

/-- The classifier, with its predicates in their priority order (R47). -/
def family (code : Byte) : Family :=
  if code &&& 0x80#8 ≠ 0#8 then .alu
  else if code &&& 0xF0#8 = 0#8 then .mem
  else if code &&& 0xF8#8 ≠ 0#8 then .br
  else .unclassified

/-- `func = code[6:4]` (R49). -/
def funcOf (code : Byte) : AluFunc :=
  match code.getLsbD 6, code.getLsbD 5, code.getLsbD 4 with
  | false, false, false => .and
  | false, false, true => .or
  | false, true, false => .xor
  | false, true, true => .add
  | true, false, false => .sub
  | true, false, true => .inc
  | true, true, false => .dec
  | true, true, true => .not

/-- `dest = code[3:2]` (R50). -/
def destOf (code : Byte) : Dest :=
  match code.getLsbD 3, code.getLsbD 2 with
  | false, false => .ind
  | false, true => .acc
  | true, false => .mar
  | true, true => .abs

/-- `sour = code[1:0]` (R51). -/
def srcOf (code : Byte) : Src :=
  match code.getLsbD 1, code.getLsbD 0 with
  | false, false => .ind
  | false, true => .acc
  | true, false => .imm
  | true, true => .abs

/-- `direction = code[3]` (R53). -/
def directionOf (code : Byte) : Direction := if code.getLsbD 3 then .load else .store

/-- `register = code[2]` (R54; C1 and I1 for the polarity). -/
def memRegOf (pol : Config.MemRegPolarity) (code : Byte) : MemReg :=
  match pol, code.getLsbD 2 with
  | .accIsZero, false => .acc
  | .accIsZero, true => .mar
  | .marIsZero, false => .mar
  | .marIsZero, true => .acc

/-- `method = code[1:0]` (R55). -/
def methodOf (code : Byte) : Method :=
  match code.getLsbD 1, code.getLsbD 0 with
  | false, false => .abs
  | false, true => .imm
  | true, false => .ind
  | true, true => .undef

/-- `type = code[2:0]` (R56). -/
def typeOf (code : Byte) : BrType :=
  match code.getLsbD 2, code.getLsbD 1, code.getLsbD 0 with
  | false, false, false => .bra
  | false, false, true => .brz
  | false, true, false => .bnz
  | false, true, true => .blt
  | true, false, false => .ble
  | true, false, true => .bgt
  | true, true, false => .bge
  | true, true, true => .br7

/-- Bits 6:3 of a branch opcode, which only tell the 14 encodings of a type apart (R66). -/
def aliasOf (code : Byte) : BitVec 4 := code.extractLsb' 3 4

/-- The width of an ALU instruction: 8 if the destination or the source is ACC, else 16 (R52). -/
def aluWidth (d : Dest) (s : Src) : Width :=
  if d = .acc ∨ s = .acc then .w8 else .w16

/-- The sizes of an opcode's trailing groups in their order (R57 to R59). -/
def groupSizesWith (pol : Config.MemRegPolarity) (code : Byte) : List Nat :=
  match family code with
  | .alu =>
    (if destOf code = .abs then [2] else []) ++
      (match srcOf code with
        | .imm => if destOf code = .acc then [1] else [2]
        | .abs => [2]
        | .ind => []
        | .acc => [])
  | .mem =>
    match methodOf code with
    | .abs => [2]
    | .imm => match memRegOf pol code with
      | .acc => [1]
      | .mar => [2]
    | .ind => []
    | .undef => []
  | .br => [2]
  | .unclassified => []

/-- `trailing_byte_count(code)` (R60). -/
def trailingCountWith (pol : Config.MemRegPolarity) (code : Byte) : Nat :=
  match family code with
  | .alu =>
    (if destOf code = .abs then 2 else 0) +
      (if srcOf code = .imm then (if destOf code = .acc then 1 else 2) else 0) +
      (if srcOf code = .abs then 2 else 0)
  | .mem =>
    match methodOf code with
    | .abs => 2
    | .imm => if memRegOf pol code = .acc then 1 else 2
    | .ind => 0
    | .undef => 0
  | .br => 2
  | .unclassified => 0

/-- `trailing_byte_count` of this machine. -/
def trailingCount (code : Byte) : Nat := trailingCountWith Config.memRegPolarity code

/-! ### Decoding -/

/-- Why bytes do not decode. No byte is a reserved opcode (R48), so bytes fail to decode only by running out. -/
inductive DecodeError where
  /-- There is no opcode byte. -/
  | noOpcode
  /-- The bytes end before the trailing bytes of this opcode do (R77). -/
  | truncated (code : Byte)
  /-- The classifier's last arm (R129). No opcode gives it (R48). -/
  | unclassified (code : Byte)
deriving DecidableEq, Repr

/-- What decoding answers: the instruction and the bytes after it. -/
abbrev Decoded := Except DecodeError (Instr × List Byte)

/-- An instruction with no trailing bytes. -/
def take0 (i : Instr) (rest : List Byte) : Decoded := .ok (i, rest)

/-- One trailing byte (a constant, R57, R58). -/
def takeByte (code : Byte) (mk : Byte → Instr) : List Byte → Decoded
  | v :: rest => .ok (mk v, rest)
  | [] => .error (.truncated code)

/-- One 2-byte group, MSB first (R32). -/
def takeWord (code : Byte) (mk : Word → Instr) : List Byte → Decoded
  | hi :: lo :: rest => .ok (mk (joinBytes hi lo), rest)
  | [_] => .error (.truncated code)
  | [] => .error (.truncated code)

/-- Two 2-byte groups: the destination address, then the source group (R57). -/
def takeTwoWords (code : Byte) (mk : Word → Word → Instr) : List Byte → Decoded
  | hi :: lo :: rest => takeWord code (mk (joinBytes hi lo)) rest
  | [_] => .error (.truncated code)
  | [] => .error (.truncated code)

/-- An ALU opcode by its fields (R49 to R52, R57). -/
def decodeAlu (code : Byte) (f : AluFunc) (d : Dest) (s : Src) (rest : List Byte) : Decoded :=
  match f, d, s with
  | .and, .ind, .ind => take0 .andIndInd rest
  | .and, .ind, .acc => take0 .andIndAcc rest
  | .and, .ind, .imm => takeWord code .andIndImm rest
  | .and, .ind, .abs => takeWord code .andIndAbs rest
  | .and, .acc, .ind => take0 .andAccInd rest
  | .and, .acc, .acc => take0 .andAccAcc rest
  | .and, .acc, .imm => takeByte code .andAccImm rest
  | .and, .acc, .abs => takeWord code .andAccAbs rest
  | .and, .mar, .ind => take0 .andMarInd rest
  | .and, .mar, .acc => take0 .andMarAcc rest
  | .and, .mar, .imm => takeWord code .andMarImm rest
  | .and, .mar, .abs => takeWord code .andMarAbs rest
  | .and, .abs, .ind => takeWord code .andAbsInd rest
  | .and, .abs, .acc => takeWord code .andAbsAcc rest
  | .and, .abs, .imm => takeTwoWords code .andAbsImm rest
  | .and, .abs, .abs => takeTwoWords code .andAbsAbs rest
  | .or, .ind, .ind => take0 .orIndInd rest
  | .or, .ind, .acc => take0 .orIndAcc rest
  | .or, .ind, .imm => takeWord code .orIndImm rest
  | .or, .ind, .abs => takeWord code .orIndAbs rest
  | .or, .acc, .ind => take0 .orAccInd rest
  | .or, .acc, .acc => take0 .orAccAcc rest
  | .or, .acc, .imm => takeByte code .orAccImm rest
  | .or, .acc, .abs => takeWord code .orAccAbs rest
  | .or, .mar, .ind => take0 .orMarInd rest
  | .or, .mar, .acc => take0 .orMarAcc rest
  | .or, .mar, .imm => takeWord code .orMarImm rest
  | .or, .mar, .abs => takeWord code .orMarAbs rest
  | .or, .abs, .ind => takeWord code .orAbsInd rest
  | .or, .abs, .acc => takeWord code .orAbsAcc rest
  | .or, .abs, .imm => takeTwoWords code .orAbsImm rest
  | .or, .abs, .abs => takeTwoWords code .orAbsAbs rest
  | .xor, .ind, .ind => take0 .xorIndInd rest
  | .xor, .ind, .acc => take0 .xorIndAcc rest
  | .xor, .ind, .imm => takeWord code .xorIndImm rest
  | .xor, .ind, .abs => takeWord code .xorIndAbs rest
  | .xor, .acc, .ind => take0 .xorAccInd rest
  | .xor, .acc, .acc => take0 .xorAccAcc rest
  | .xor, .acc, .imm => takeByte code .xorAccImm rest
  | .xor, .acc, .abs => takeWord code .xorAccAbs rest
  | .xor, .mar, .ind => take0 .xorMarInd rest
  | .xor, .mar, .acc => take0 .xorMarAcc rest
  | .xor, .mar, .imm => takeWord code .xorMarImm rest
  | .xor, .mar, .abs => takeWord code .xorMarAbs rest
  | .xor, .abs, .ind => takeWord code .xorAbsInd rest
  | .xor, .abs, .acc => takeWord code .xorAbsAcc rest
  | .xor, .abs, .imm => takeTwoWords code .xorAbsImm rest
  | .xor, .abs, .abs => takeTwoWords code .xorAbsAbs rest
  | .add, .ind, .ind => take0 .addIndInd rest
  | .add, .ind, .acc => take0 .addIndAcc rest
  | .add, .ind, .imm => takeWord code .addIndImm rest
  | .add, .ind, .abs => takeWord code .addIndAbs rest
  | .add, .acc, .ind => take0 .addAccInd rest
  | .add, .acc, .acc => take0 .addAccAcc rest
  | .add, .acc, .imm => takeByte code .addAccImm rest
  | .add, .acc, .abs => takeWord code .addAccAbs rest
  | .add, .mar, .ind => take0 .addMarInd rest
  | .add, .mar, .acc => take0 .addMarAcc rest
  | .add, .mar, .imm => takeWord code .addMarImm rest
  | .add, .mar, .abs => takeWord code .addMarAbs rest
  | .add, .abs, .ind => takeWord code .addAbsInd rest
  | .add, .abs, .acc => takeWord code .addAbsAcc rest
  | .add, .abs, .imm => takeTwoWords code .addAbsImm rest
  | .add, .abs, .abs => takeTwoWords code .addAbsAbs rest
  | .sub, .ind, .ind => take0 .subIndInd rest
  | .sub, .ind, .acc => take0 .subIndAcc rest
  | .sub, .ind, .imm => takeWord code .subIndImm rest
  | .sub, .ind, .abs => takeWord code .subIndAbs rest
  | .sub, .acc, .ind => take0 .subAccInd rest
  | .sub, .acc, .acc => take0 .subAccAcc rest
  | .sub, .acc, .imm => takeByte code .subAccImm rest
  | .sub, .acc, .abs => takeWord code .subAccAbs rest
  | .sub, .mar, .ind => take0 .subMarInd rest
  | .sub, .mar, .acc => take0 .subMarAcc rest
  | .sub, .mar, .imm => takeWord code .subMarImm rest
  | .sub, .mar, .abs => takeWord code .subMarAbs rest
  | .sub, .abs, .ind => takeWord code .subAbsInd rest
  | .sub, .abs, .acc => takeWord code .subAbsAcc rest
  | .sub, .abs, .imm => takeTwoWords code .subAbsImm rest
  | .sub, .abs, .abs => takeTwoWords code .subAbsAbs rest
  | .inc, .ind, .ind => take0 .incIndInd rest
  | .inc, .ind, .acc => take0 .incIndAcc rest
  | .inc, .ind, .imm => takeWord code .incIndImm rest
  | .inc, .ind, .abs => takeWord code .incIndAbs rest
  | .inc, .acc, .ind => take0 .incAccInd rest
  | .inc, .acc, .acc => take0 .incAccAcc rest
  | .inc, .acc, .imm => takeByte code .incAccImm rest
  | .inc, .acc, .abs => takeWord code .incAccAbs rest
  | .inc, .mar, .ind => take0 .incMarInd rest
  | .inc, .mar, .acc => take0 .incMarAcc rest
  | .inc, .mar, .imm => takeWord code .incMarImm rest
  | .inc, .mar, .abs => takeWord code .incMarAbs rest
  | .inc, .abs, .ind => takeWord code .incAbsInd rest
  | .inc, .abs, .acc => takeWord code .incAbsAcc rest
  | .inc, .abs, .imm => takeTwoWords code .incAbsImm rest
  | .inc, .abs, .abs => takeTwoWords code .incAbsAbs rest
  | .dec, .ind, .ind => take0 .decIndInd rest
  | .dec, .ind, .acc => take0 .decIndAcc rest
  | .dec, .ind, .imm => takeWord code .decIndImm rest
  | .dec, .ind, .abs => takeWord code .decIndAbs rest
  | .dec, .acc, .ind => take0 .decAccInd rest
  | .dec, .acc, .acc => take0 .decAccAcc rest
  | .dec, .acc, .imm => takeByte code .decAccImm rest
  | .dec, .acc, .abs => takeWord code .decAccAbs rest
  | .dec, .mar, .ind => take0 .decMarInd rest
  | .dec, .mar, .acc => take0 .decMarAcc rest
  | .dec, .mar, .imm => takeWord code .decMarImm rest
  | .dec, .mar, .abs => takeWord code .decMarAbs rest
  | .dec, .abs, .ind => takeWord code .decAbsInd rest
  | .dec, .abs, .acc => takeWord code .decAbsAcc rest
  | .dec, .abs, .imm => takeTwoWords code .decAbsImm rest
  | .dec, .abs, .abs => takeTwoWords code .decAbsAbs rest
  | .not, .ind, .ind => take0 .notIndInd rest
  | .not, .ind, .acc => take0 .notIndAcc rest
  | .not, .ind, .imm => takeWord code .notIndImm rest
  | .not, .ind, .abs => takeWord code .notIndAbs rest
  | .not, .acc, .ind => take0 .notAccInd rest
  | .not, .acc, .acc => take0 .notAccAcc rest
  | .not, .acc, .imm => takeByte code .notAccImm rest
  | .not, .acc, .abs => takeWord code .notAccAbs rest
  | .not, .mar, .ind => take0 .notMarInd rest
  | .not, .mar, .acc => take0 .notMarAcc rest
  | .not, .mar, .imm => takeWord code .notMarImm rest
  | .not, .mar, .abs => takeWord code .notMarAbs rest
  | .not, .abs, .ind => takeWord code .notAbsInd rest
  | .not, .abs, .acc => takeWord code .notAbsAcc rest
  | .not, .abs, .imm => takeTwoWords code .notAbsImm rest
  | .not, .abs, .abs => takeTwoWords code .notAbsAbs rest

/-- A MEM opcode by its fields (R53 to R55, R58). -/
def decodeMem (code : Byte) (d : Direction) (r : MemReg) (m : Method) (rest : List Byte) : Decoded :=
  match d, r, m with
  | .store, .acc, .abs => takeWord code .storeAccAbs rest
  | .store, .acc, .imm => takeByte code .storeAccImm rest
  | .store, .acc, .ind => take0 .storeAccInd rest
  | .store, .acc, .undef => take0 .storeAccMethod3 rest
  | .store, .mar, .abs => takeWord code .storeMarAbs rest
  | .store, .mar, .imm => takeWord code .storeMarImm rest
  | .store, .mar, .ind => take0 .storeMarInd rest
  | .store, .mar, .undef => take0 .storeMarMethod3 rest
  | .load, .acc, .abs => takeWord code .loadAccAbs rest
  | .load, .acc, .imm => takeByte code .loadAccImm rest
  | .load, .acc, .ind => take0 .loadAccInd rest
  | .load, .acc, .undef => take0 .loadAccMethod3 rest
  | .load, .mar, .abs => takeWord code .loadMarAbs rest
  | .load, .mar, .imm => takeWord code .loadMarImm rest
  | .load, .mar, .ind => take0 .loadMarInd rest
  | .load, .mar, .undef => take0 .loadMarMethod3 rest

/-- A BR opcode by its type (R56, R59). -/
def decodeBr (code : Byte) (t : BrType) (rest : List Byte) : Decoded :=
  match t with
  | .bra => takeWord code (.bra (aliasOf code)) rest
  | .brz => takeWord code (.brz (aliasOf code)) rest
  | .bnz => takeWord code (.bnz (aliasOf code)) rest
  | .blt => takeWord code (.blt (aliasOf code)) rest
  | .ble => takeWord code (.ble (aliasOf code)) rest
  | .bgt => takeWord code (.bgt (aliasOf code)) rest
  | .bge => takeWord code (.bge (aliasOf code)) rest
  | .br7 => takeWord code (.br7 (aliasOf code)) rest

/-- Decode the first instruction of a list of bytes. -/
def decodeWith (pol : Config.MemRegPolarity) : List Byte → Decoded
  | [] => .error .noOpcode
  | code :: rest =>
    match family code with
    | .alu => decodeAlu code (funcOf code) (destOf code) (srcOf code) rest
    | .mem => decodeMem code (directionOf code) (memRegOf pol code) (methodOf code) rest
    | .br => decodeBr code (typeOf code) rest
    | .unclassified => .error (.unclassified code)

/-- The decoder of this machine. -/
def decode (bytes : List Byte) : Decoded := decodeWith Config.memRegPolarity bytes

/-! ### Encoding -/

/-- The opcode of a MEM row: the table's byte, with bit 2 complemented under the other polarity (I1). -/
def memOpcode (pol : Config.MemRegPolarity) (code : Byte) : Byte :=
  match pol with
  | .accIsZero => code
  | .marIsZero => code ^^^ 0b0000_0_1_00#8

/-- The opcode of a branch, `0xxxxttt` (R56). -/
def branchOpcode (b : BitVec 4) (t : BitVec 3) : Byte := 0#1 ++ b ++ t

/-- The opcode byte of each row of the opcode table: `1_fff_dd_ss`, `0000_d_r_mm` and `0xxxxttt`. -/
def opcodeWith (pol : Config.MemRegPolarity) : Instr → Byte
  | .andIndInd => 0b1_000_00_00#8
  | .andIndAcc => 0b1_000_00_01#8
  | .andIndImm _ => 0b1_000_00_10#8
  | .andIndAbs _ => 0b1_000_00_11#8
  | .andAccInd => 0b1_000_01_00#8
  | .andAccAcc => 0b1_000_01_01#8
  | .andAccImm _ => 0b1_000_01_10#8
  | .andAccAbs _ => 0b1_000_01_11#8
  | .andMarInd => 0b1_000_10_00#8
  | .andMarAcc => 0b1_000_10_01#8
  | .andMarImm _ => 0b1_000_10_10#8
  | .andMarAbs _ => 0b1_000_10_11#8
  | .andAbsInd _ => 0b1_000_11_00#8
  | .andAbsAcc _ => 0b1_000_11_01#8
  | .andAbsImm _ _ => 0b1_000_11_10#8
  | .andAbsAbs _ _ => 0b1_000_11_11#8
  | .orIndInd => 0b1_001_00_00#8
  | .orIndAcc => 0b1_001_00_01#8
  | .orIndImm _ => 0b1_001_00_10#8
  | .orIndAbs _ => 0b1_001_00_11#8
  | .orAccInd => 0b1_001_01_00#8
  | .orAccAcc => 0b1_001_01_01#8
  | .orAccImm _ => 0b1_001_01_10#8
  | .orAccAbs _ => 0b1_001_01_11#8
  | .orMarInd => 0b1_001_10_00#8
  | .orMarAcc => 0b1_001_10_01#8
  | .orMarImm _ => 0b1_001_10_10#8
  | .orMarAbs _ => 0b1_001_10_11#8
  | .orAbsInd _ => 0b1_001_11_00#8
  | .orAbsAcc _ => 0b1_001_11_01#8
  | .orAbsImm _ _ => 0b1_001_11_10#8
  | .orAbsAbs _ _ => 0b1_001_11_11#8
  | .xorIndInd => 0b1_010_00_00#8
  | .xorIndAcc => 0b1_010_00_01#8
  | .xorIndImm _ => 0b1_010_00_10#8
  | .xorIndAbs _ => 0b1_010_00_11#8
  | .xorAccInd => 0b1_010_01_00#8
  | .xorAccAcc => 0b1_010_01_01#8
  | .xorAccImm _ => 0b1_010_01_10#8
  | .xorAccAbs _ => 0b1_010_01_11#8
  | .xorMarInd => 0b1_010_10_00#8
  | .xorMarAcc => 0b1_010_10_01#8
  | .xorMarImm _ => 0b1_010_10_10#8
  | .xorMarAbs _ => 0b1_010_10_11#8
  | .xorAbsInd _ => 0b1_010_11_00#8
  | .xorAbsAcc _ => 0b1_010_11_01#8
  | .xorAbsImm _ _ => 0b1_010_11_10#8
  | .xorAbsAbs _ _ => 0b1_010_11_11#8
  | .addIndInd => 0b1_011_00_00#8
  | .addIndAcc => 0b1_011_00_01#8
  | .addIndImm _ => 0b1_011_00_10#8
  | .addIndAbs _ => 0b1_011_00_11#8
  | .addAccInd => 0b1_011_01_00#8
  | .addAccAcc => 0b1_011_01_01#8
  | .addAccImm _ => 0b1_011_01_10#8
  | .addAccAbs _ => 0b1_011_01_11#8
  | .addMarInd => 0b1_011_10_00#8
  | .addMarAcc => 0b1_011_10_01#8
  | .addMarImm _ => 0b1_011_10_10#8
  | .addMarAbs _ => 0b1_011_10_11#8
  | .addAbsInd _ => 0b1_011_11_00#8
  | .addAbsAcc _ => 0b1_011_11_01#8
  | .addAbsImm _ _ => 0b1_011_11_10#8
  | .addAbsAbs _ _ => 0b1_011_11_11#8
  | .subIndInd => 0b1_100_00_00#8
  | .subIndAcc => 0b1_100_00_01#8
  | .subIndImm _ => 0b1_100_00_10#8
  | .subIndAbs _ => 0b1_100_00_11#8
  | .subAccInd => 0b1_100_01_00#8
  | .subAccAcc => 0b1_100_01_01#8
  | .subAccImm _ => 0b1_100_01_10#8
  | .subAccAbs _ => 0b1_100_01_11#8
  | .subMarInd => 0b1_100_10_00#8
  | .subMarAcc => 0b1_100_10_01#8
  | .subMarImm _ => 0b1_100_10_10#8
  | .subMarAbs _ => 0b1_100_10_11#8
  | .subAbsInd _ => 0b1_100_11_00#8
  | .subAbsAcc _ => 0b1_100_11_01#8
  | .subAbsImm _ _ => 0b1_100_11_10#8
  | .subAbsAbs _ _ => 0b1_100_11_11#8
  | .incIndInd => 0b1_101_00_00#8
  | .incIndAcc => 0b1_101_00_01#8
  | .incIndImm _ => 0b1_101_00_10#8
  | .incIndAbs _ => 0b1_101_00_11#8
  | .incAccInd => 0b1_101_01_00#8
  | .incAccAcc => 0b1_101_01_01#8
  | .incAccImm _ => 0b1_101_01_10#8
  | .incAccAbs _ => 0b1_101_01_11#8
  | .incMarInd => 0b1_101_10_00#8
  | .incMarAcc => 0b1_101_10_01#8
  | .incMarImm _ => 0b1_101_10_10#8
  | .incMarAbs _ => 0b1_101_10_11#8
  | .incAbsInd _ => 0b1_101_11_00#8
  | .incAbsAcc _ => 0b1_101_11_01#8
  | .incAbsImm _ _ => 0b1_101_11_10#8
  | .incAbsAbs _ _ => 0b1_101_11_11#8
  | .decIndInd => 0b1_110_00_00#8
  | .decIndAcc => 0b1_110_00_01#8
  | .decIndImm _ => 0b1_110_00_10#8
  | .decIndAbs _ => 0b1_110_00_11#8
  | .decAccInd => 0b1_110_01_00#8
  | .decAccAcc => 0b1_110_01_01#8
  | .decAccImm _ => 0b1_110_01_10#8
  | .decAccAbs _ => 0b1_110_01_11#8
  | .decMarInd => 0b1_110_10_00#8
  | .decMarAcc => 0b1_110_10_01#8
  | .decMarImm _ => 0b1_110_10_10#8
  | .decMarAbs _ => 0b1_110_10_11#8
  | .decAbsInd _ => 0b1_110_11_00#8
  | .decAbsAcc _ => 0b1_110_11_01#8
  | .decAbsImm _ _ => 0b1_110_11_10#8
  | .decAbsAbs _ _ => 0b1_110_11_11#8
  | .notIndInd => 0b1_111_00_00#8
  | .notIndAcc => 0b1_111_00_01#8
  | .notIndImm _ => 0b1_111_00_10#8
  | .notIndAbs _ => 0b1_111_00_11#8
  | .notAccInd => 0b1_111_01_00#8
  | .notAccAcc => 0b1_111_01_01#8
  | .notAccImm _ => 0b1_111_01_10#8
  | .notAccAbs _ => 0b1_111_01_11#8
  | .notMarInd => 0b1_111_10_00#8
  | .notMarAcc => 0b1_111_10_01#8
  | .notMarImm _ => 0b1_111_10_10#8
  | .notMarAbs _ => 0b1_111_10_11#8
  | .notAbsInd _ => 0b1_111_11_00#8
  | .notAbsAcc _ => 0b1_111_11_01#8
  | .notAbsImm _ _ => 0b1_111_11_10#8
  | .notAbsAbs _ _ => 0b1_111_11_11#8
  | .storeAccAbs _ => memOpcode pol 0b0000_0_0_00#8
  | .storeAccImm _ => memOpcode pol 0b0000_0_0_01#8
  | .storeAccInd => memOpcode pol 0b0000_0_0_10#8
  | .storeAccMethod3 => memOpcode pol 0b0000_0_0_11#8
  | .storeMarAbs _ => memOpcode pol 0b0000_0_1_00#8
  | .storeMarImm _ => memOpcode pol 0b0000_0_1_01#8
  | .storeMarInd => memOpcode pol 0b0000_0_1_10#8
  | .storeMarMethod3 => memOpcode pol 0b0000_0_1_11#8
  | .loadAccAbs _ => memOpcode pol 0b0000_1_0_00#8
  | .loadAccImm _ => memOpcode pol 0b0000_1_0_01#8
  | .loadAccInd => memOpcode pol 0b0000_1_0_10#8
  | .loadAccMethod3 => memOpcode pol 0b0000_1_0_11#8
  | .loadMarAbs _ => memOpcode pol 0b0000_1_1_00#8
  | .loadMarImm _ => memOpcode pol 0b0000_1_1_01#8
  | .loadMarInd => memOpcode pol 0b0000_1_1_10#8
  | .loadMarMethod3 => memOpcode pol 0b0000_1_1_11#8
  | .bra b _ => branchOpcode b 0b000#3
  | .brz b _ => branchOpcode b 0b001#3
  | .bnz b _ => branchOpcode b 0b010#3
  | .blt b _ => branchOpcode b 0b011#3
  | .ble b _ => branchOpcode b 0b100#3
  | .bgt b _ => branchOpcode b 0b101#3
  | .bge b _ => branchOpcode b 0b110#3
  | .br7 b _ => branchOpcode b 0b111#3

/-- The opcode byte of this machine, which fetch writes to IR (R75). -/
def Instr.opcode (i : Instr) : Byte := opcodeWith Config.memRegPolarity i

/-- The trailing groups of an instruction, in the order they stand in memory (R57 to R59). -/
def Instr.groups : Instr → List Group
  | .andIndInd => []
  | .andIndAcc => []
  | .andIndImm imm => [.word imm]
  | .andIndAbs src => [.word src]
  | .andAccInd => []
  | .andAccAcc => []
  | .andAccImm imm => [.byte imm]
  | .andAccAbs src => [.word src]
  | .andMarInd => []
  | .andMarAcc => []
  | .andMarImm imm => [.word imm]
  | .andMarAbs src => [.word src]
  | .andAbsInd dst => [.word dst]
  | .andAbsAcc dst => [.word dst]
  | .andAbsImm dst imm => [.word dst, .word imm]
  | .andAbsAbs dst src => [.word dst, .word src]
  | .orIndInd => []
  | .orIndAcc => []
  | .orIndImm imm => [.word imm]
  | .orIndAbs src => [.word src]
  | .orAccInd => []
  | .orAccAcc => []
  | .orAccImm imm => [.byte imm]
  | .orAccAbs src => [.word src]
  | .orMarInd => []
  | .orMarAcc => []
  | .orMarImm imm => [.word imm]
  | .orMarAbs src => [.word src]
  | .orAbsInd dst => [.word dst]
  | .orAbsAcc dst => [.word dst]
  | .orAbsImm dst imm => [.word dst, .word imm]
  | .orAbsAbs dst src => [.word dst, .word src]
  | .xorIndInd => []
  | .xorIndAcc => []
  | .xorIndImm imm => [.word imm]
  | .xorIndAbs src => [.word src]
  | .xorAccInd => []
  | .xorAccAcc => []
  | .xorAccImm imm => [.byte imm]
  | .xorAccAbs src => [.word src]
  | .xorMarInd => []
  | .xorMarAcc => []
  | .xorMarImm imm => [.word imm]
  | .xorMarAbs src => [.word src]
  | .xorAbsInd dst => [.word dst]
  | .xorAbsAcc dst => [.word dst]
  | .xorAbsImm dst imm => [.word dst, .word imm]
  | .xorAbsAbs dst src => [.word dst, .word src]
  | .addIndInd => []
  | .addIndAcc => []
  | .addIndImm imm => [.word imm]
  | .addIndAbs src => [.word src]
  | .addAccInd => []
  | .addAccAcc => []
  | .addAccImm imm => [.byte imm]
  | .addAccAbs src => [.word src]
  | .addMarInd => []
  | .addMarAcc => []
  | .addMarImm imm => [.word imm]
  | .addMarAbs src => [.word src]
  | .addAbsInd dst => [.word dst]
  | .addAbsAcc dst => [.word dst]
  | .addAbsImm dst imm => [.word dst, .word imm]
  | .addAbsAbs dst src => [.word dst, .word src]
  | .subIndInd => []
  | .subIndAcc => []
  | .subIndImm imm => [.word imm]
  | .subIndAbs src => [.word src]
  | .subAccInd => []
  | .subAccAcc => []
  | .subAccImm imm => [.byte imm]
  | .subAccAbs src => [.word src]
  | .subMarInd => []
  | .subMarAcc => []
  | .subMarImm imm => [.word imm]
  | .subMarAbs src => [.word src]
  | .subAbsInd dst => [.word dst]
  | .subAbsAcc dst => [.word dst]
  | .subAbsImm dst imm => [.word dst, .word imm]
  | .subAbsAbs dst src => [.word dst, .word src]
  | .incIndInd => []
  | .incIndAcc => []
  | .incIndImm imm => [.word imm]
  | .incIndAbs src => [.word src]
  | .incAccInd => []
  | .incAccAcc => []
  | .incAccImm imm => [.byte imm]
  | .incAccAbs src => [.word src]
  | .incMarInd => []
  | .incMarAcc => []
  | .incMarImm imm => [.word imm]
  | .incMarAbs src => [.word src]
  | .incAbsInd dst => [.word dst]
  | .incAbsAcc dst => [.word dst]
  | .incAbsImm dst imm => [.word dst, .word imm]
  | .incAbsAbs dst src => [.word dst, .word src]
  | .decIndInd => []
  | .decIndAcc => []
  | .decIndImm imm => [.word imm]
  | .decIndAbs src => [.word src]
  | .decAccInd => []
  | .decAccAcc => []
  | .decAccImm imm => [.byte imm]
  | .decAccAbs src => [.word src]
  | .decMarInd => []
  | .decMarAcc => []
  | .decMarImm imm => [.word imm]
  | .decMarAbs src => [.word src]
  | .decAbsInd dst => [.word dst]
  | .decAbsAcc dst => [.word dst]
  | .decAbsImm dst imm => [.word dst, .word imm]
  | .decAbsAbs dst src => [.word dst, .word src]
  | .notIndInd => []
  | .notIndAcc => []
  | .notIndImm imm => [.word imm]
  | .notIndAbs src => [.word src]
  | .notAccInd => []
  | .notAccAcc => []
  | .notAccImm imm => [.byte imm]
  | .notAccAbs src => [.word src]
  | .notMarInd => []
  | .notMarAcc => []
  | .notMarImm imm => [.word imm]
  | .notMarAbs src => [.word src]
  | .notAbsInd dst => [.word dst]
  | .notAbsAcc dst => [.word dst]
  | .notAbsImm dst imm => [.word dst, .word imm]
  | .notAbsAbs dst src => [.word dst, .word src]
  | .storeAccAbs addr => [.word addr]
  | .storeAccImm imm => [.byte imm]
  | .storeAccInd => []
  | .storeAccMethod3 => []
  | .storeMarAbs addr => [.word addr]
  | .storeMarImm imm => [.word imm]
  | .storeMarInd => []
  | .storeMarMethod3 => []
  | .loadAccAbs addr => [.word addr]
  | .loadAccImm imm => [.byte imm]
  | .loadAccInd => []
  | .loadAccMethod3 => []
  | .loadMarAbs addr => [.word addr]
  | .loadMarImm imm => [.word imm]
  | .loadMarInd => []
  | .loadMarMethod3 => []
  | .bra _ target => [.word target]
  | .brz _ target => [.word target]
  | .bnz _ target => [.word target]
  | .blt _ target => [.word target]
  | .ble _ target => [.word target]
  | .bgt _ target => [.word target]
  | .bge _ target => [.word target]
  | .br7 _ target => [.word target]

/-- A group's bytes, MSB first (R32). -/
def Group.bytes : Group → List Byte
  | .byte v => [v]
  | .word v => [hiByte v, loByte v]

/-- The bytes of a list of groups, in order. -/
def groupBytes : List Group → List Byte
  | [] => []
  | g :: gs => g.bytes ++ groupBytes gs

/-- The encoding of an instruction: its opcode, then its trailing bytes (R46). -/
def encodeWith (pol : Config.MemRegPolarity) (i : Instr) : List Byte := opcodeWith pol i :: groupBytes i.groups

/-- The encoder of this machine. -/
def encode (i : Instr) : List Byte := encodeWith Config.memRegPolarity i

/-- The length L in bytes (R60). -/
def Instr.length (i : Instr) : Nat := 1 + (groupBytes i.groups).length

/-- The fields that select what execute does (R49 to R56). -/
def Instr.op : Instr → Op
  | .andIndInd => .alu .and .ind .ind
  | .andIndAcc => .alu .and .ind .acc
  | .andIndImm _ => .alu .and .ind .imm
  | .andIndAbs _ => .alu .and .ind .abs
  | .andAccInd => .alu .and .acc .ind
  | .andAccAcc => .alu .and .acc .acc
  | .andAccImm _ => .alu .and .acc .imm
  | .andAccAbs _ => .alu .and .acc .abs
  | .andMarInd => .alu .and .mar .ind
  | .andMarAcc => .alu .and .mar .acc
  | .andMarImm _ => .alu .and .mar .imm
  | .andMarAbs _ => .alu .and .mar .abs
  | .andAbsInd _ => .alu .and .abs .ind
  | .andAbsAcc _ => .alu .and .abs .acc
  | .andAbsImm _ _ => .alu .and .abs .imm
  | .andAbsAbs _ _ => .alu .and .abs .abs
  | .orIndInd => .alu .or .ind .ind
  | .orIndAcc => .alu .or .ind .acc
  | .orIndImm _ => .alu .or .ind .imm
  | .orIndAbs _ => .alu .or .ind .abs
  | .orAccInd => .alu .or .acc .ind
  | .orAccAcc => .alu .or .acc .acc
  | .orAccImm _ => .alu .or .acc .imm
  | .orAccAbs _ => .alu .or .acc .abs
  | .orMarInd => .alu .or .mar .ind
  | .orMarAcc => .alu .or .mar .acc
  | .orMarImm _ => .alu .or .mar .imm
  | .orMarAbs _ => .alu .or .mar .abs
  | .orAbsInd _ => .alu .or .abs .ind
  | .orAbsAcc _ => .alu .or .abs .acc
  | .orAbsImm _ _ => .alu .or .abs .imm
  | .orAbsAbs _ _ => .alu .or .abs .abs
  | .xorIndInd => .alu .xor .ind .ind
  | .xorIndAcc => .alu .xor .ind .acc
  | .xorIndImm _ => .alu .xor .ind .imm
  | .xorIndAbs _ => .alu .xor .ind .abs
  | .xorAccInd => .alu .xor .acc .ind
  | .xorAccAcc => .alu .xor .acc .acc
  | .xorAccImm _ => .alu .xor .acc .imm
  | .xorAccAbs _ => .alu .xor .acc .abs
  | .xorMarInd => .alu .xor .mar .ind
  | .xorMarAcc => .alu .xor .mar .acc
  | .xorMarImm _ => .alu .xor .mar .imm
  | .xorMarAbs _ => .alu .xor .mar .abs
  | .xorAbsInd _ => .alu .xor .abs .ind
  | .xorAbsAcc _ => .alu .xor .abs .acc
  | .xorAbsImm _ _ => .alu .xor .abs .imm
  | .xorAbsAbs _ _ => .alu .xor .abs .abs
  | .addIndInd => .alu .add .ind .ind
  | .addIndAcc => .alu .add .ind .acc
  | .addIndImm _ => .alu .add .ind .imm
  | .addIndAbs _ => .alu .add .ind .abs
  | .addAccInd => .alu .add .acc .ind
  | .addAccAcc => .alu .add .acc .acc
  | .addAccImm _ => .alu .add .acc .imm
  | .addAccAbs _ => .alu .add .acc .abs
  | .addMarInd => .alu .add .mar .ind
  | .addMarAcc => .alu .add .mar .acc
  | .addMarImm _ => .alu .add .mar .imm
  | .addMarAbs _ => .alu .add .mar .abs
  | .addAbsInd _ => .alu .add .abs .ind
  | .addAbsAcc _ => .alu .add .abs .acc
  | .addAbsImm _ _ => .alu .add .abs .imm
  | .addAbsAbs _ _ => .alu .add .abs .abs
  | .subIndInd => .alu .sub .ind .ind
  | .subIndAcc => .alu .sub .ind .acc
  | .subIndImm _ => .alu .sub .ind .imm
  | .subIndAbs _ => .alu .sub .ind .abs
  | .subAccInd => .alu .sub .acc .ind
  | .subAccAcc => .alu .sub .acc .acc
  | .subAccImm _ => .alu .sub .acc .imm
  | .subAccAbs _ => .alu .sub .acc .abs
  | .subMarInd => .alu .sub .mar .ind
  | .subMarAcc => .alu .sub .mar .acc
  | .subMarImm _ => .alu .sub .mar .imm
  | .subMarAbs _ => .alu .sub .mar .abs
  | .subAbsInd _ => .alu .sub .abs .ind
  | .subAbsAcc _ => .alu .sub .abs .acc
  | .subAbsImm _ _ => .alu .sub .abs .imm
  | .subAbsAbs _ _ => .alu .sub .abs .abs
  | .incIndInd => .alu .inc .ind .ind
  | .incIndAcc => .alu .inc .ind .acc
  | .incIndImm _ => .alu .inc .ind .imm
  | .incIndAbs _ => .alu .inc .ind .abs
  | .incAccInd => .alu .inc .acc .ind
  | .incAccAcc => .alu .inc .acc .acc
  | .incAccImm _ => .alu .inc .acc .imm
  | .incAccAbs _ => .alu .inc .acc .abs
  | .incMarInd => .alu .inc .mar .ind
  | .incMarAcc => .alu .inc .mar .acc
  | .incMarImm _ => .alu .inc .mar .imm
  | .incMarAbs _ => .alu .inc .mar .abs
  | .incAbsInd _ => .alu .inc .abs .ind
  | .incAbsAcc _ => .alu .inc .abs .acc
  | .incAbsImm _ _ => .alu .inc .abs .imm
  | .incAbsAbs _ _ => .alu .inc .abs .abs
  | .decIndInd => .alu .dec .ind .ind
  | .decIndAcc => .alu .dec .ind .acc
  | .decIndImm _ => .alu .dec .ind .imm
  | .decIndAbs _ => .alu .dec .ind .abs
  | .decAccInd => .alu .dec .acc .ind
  | .decAccAcc => .alu .dec .acc .acc
  | .decAccImm _ => .alu .dec .acc .imm
  | .decAccAbs _ => .alu .dec .acc .abs
  | .decMarInd => .alu .dec .mar .ind
  | .decMarAcc => .alu .dec .mar .acc
  | .decMarImm _ => .alu .dec .mar .imm
  | .decMarAbs _ => .alu .dec .mar .abs
  | .decAbsInd _ => .alu .dec .abs .ind
  | .decAbsAcc _ => .alu .dec .abs .acc
  | .decAbsImm _ _ => .alu .dec .abs .imm
  | .decAbsAbs _ _ => .alu .dec .abs .abs
  | .notIndInd => .alu .not .ind .ind
  | .notIndAcc => .alu .not .ind .acc
  | .notIndImm _ => .alu .not .ind .imm
  | .notIndAbs _ => .alu .not .ind .abs
  | .notAccInd => .alu .not .acc .ind
  | .notAccAcc => .alu .not .acc .acc
  | .notAccImm _ => .alu .not .acc .imm
  | .notAccAbs _ => .alu .not .acc .abs
  | .notMarInd => .alu .not .mar .ind
  | .notMarAcc => .alu .not .mar .acc
  | .notMarImm _ => .alu .not .mar .imm
  | .notMarAbs _ => .alu .not .mar .abs
  | .notAbsInd _ => .alu .not .abs .ind
  | .notAbsAcc _ => .alu .not .abs .acc
  | .notAbsImm _ _ => .alu .not .abs .imm
  | .notAbsAbs _ _ => .alu .not .abs .abs
  | .storeAccAbs _ => .mem .store .acc .abs
  | .storeAccImm _ => .mem .store .acc .imm
  | .storeAccInd => .mem .store .acc .ind
  | .storeAccMethod3 => .mem .store .acc .undef
  | .storeMarAbs _ => .mem .store .mar .abs
  | .storeMarImm _ => .mem .store .mar .imm
  | .storeMarInd => .mem .store .mar .ind
  | .storeMarMethod3 => .mem .store .mar .undef
  | .loadAccAbs _ => .mem .load .acc .abs
  | .loadAccImm _ => .mem .load .acc .imm
  | .loadAccInd => .mem .load .acc .ind
  | .loadAccMethod3 => .mem .load .acc .undef
  | .loadMarAbs _ => .mem .load .mar .abs
  | .loadMarImm _ => .mem .load .mar .imm
  | .loadMarInd => .mem .load .mar .ind
  | .loadMarMethod3 => .mem .load .mar .undef
  | .bra _ _ => .br .bra
  | .brz _ _ => .br .brz
  | .bnz _ _ => .br .bnz
  | .blt _ _ => .br .blt
  | .ble _ _ => .br .ble
  | .bgt _ _ => .br .bgt
  | .bge _ _ => .br .bge
  | .br7 _ _ => .br .br7

/-! ### Words of the opcode table -/

/-- The instruction whose bits are `w`, numbered as the opcode table numbers them, as the bytes memory would hold: the first byte is bits
7:0. Every bit from `nbits` on is 0, up to the longest instruction of 5 bytes (R60). -/
def tableBytes (nbits w : Nat) : List Byte :=
  [BitVec.ofNat 8 (w % 2 ^ nbits), BitVec.ofNat 8 (w % 2 ^ nbits / 0x100), BitVec.ofNat 8 (w % 2 ^ nbits / 0x10000),
    BitVec.ofNat 8 (w % 2 ^ nbits / 0x1000000), BitVec.ofNat 8 (w % 2 ^ nbits / 0x100000000)]

/-- What the decoder reads from a word of the opcode table. -/
def decodeTableWord (nbits w : Nat) : Option Instr :=
  match decode (tableBytes nbits w) with
  | .ok (i, _) => some i
  | .error _ => none

end Sys2Proof
end

