-- ==== Sys2Proof/Machine/State.lean ====
section
/-! DEFINITION. The state vector (10_state.md R14), the launch state (R28, R152) and the reasons a step can stop. -/

namespace Sys2Proof.Machine

/-- The error output ERR (R22): no error, or one of the two kinds of R139. -/
inductive Err where
  | none
  | outOfBounds
  | unresolvedAddress
deriving DecidableEq, Repr

/-- The numeric code of ERR (R22). DESIGN CHOICE (the spec's, D13; log 18). -/
def Err.code : Err → Nat
  | .none => 0
  | .outOfBounds => 1
  | .unresolvedAddress => 2

/-- Memory as (address, byte) pairs. A cell that is not listed reads as `Config.unlistedByte`. -/
abbrev Memory := List Host.Cell

/-- The canonical form from address `lo` on: addresses strictly rising and below 65,536 (R15), and no entry equal to what an unlisted
cell reads as. -/
def Memory.wfFrom (lo : Nat) : Memory → Bool
  | [] => true
  | (a, b) :: rest =>
    decide (lo ≤ a) && decide (a < 0x10000) && decide (b ≠ Config.unlistedByte) && Memory.wfFrom (a + 1) rest

/-- Memory is in its canonical form, so that equal contents are equal data. -/
def Memory.wf (m : Memory) : Bool := Memory.wfFrom 0 m

/-- The state of one core: exactly the elements of R14. -/
structure State where
  /-- The memory array M (R15). -/
  mem : Memory
  /-- The accumulator (R16). -/
  acc : Byte
  /-- The memory address register (R17). -/
  mar : Word
  /-- The instruction register (R18). -/
  ir : Byte
  /-- The program counter (R19). -/
  pc : Word
  /-- The carry out of PC's advance past 0xFFFF (R20). -/
  pcx : Bool
  /-- The immediate latch, high byte or 8-bit constant (R21). -/
  msb : Byte
  /-- The immediate latch, low byte (R21). -/
  lsb : Byte
  /-- The error output (R22). -/
  err : Err
  /-- The value recorded with an error (R22, R140, R141). -/
  errInfo : ErrInfo
deriving DecidableEq, Repr

/-- Why a step gives no next state. -/
inductive Fault where
  /-- Raised by `step` alone, when ERR is not None: the core takes no further step (R133). Safe: the model stops where the core does
  (log 17). -/
  | coreStopped
deriving DecidableEq, Repr

/-- Why an instruction has no meaning. -/
inductive Refusal where
  /-- The form of an arm of `exec` whose instruction has no meaning. No arm raises it: all 152 have one. Safe. -/
  | notModelled (mnemonic : String)
deriving DecidableEq, Repr

/-- What a step or an instruction answers. -/
abbrev Result := Host.Outcome State Fault Refusal

/-- The launch parameters (R7, R28): the driver's image, PC_LAUNCH, ACC_LAUNCH, MAR_LAUNCH, and the unspecified IR, MSB and LSB. -/
structure Launch where
  mem : Memory
  pc : Word
  acc : Byte
  mar : Word
  ir : Byte
  msb : Byte
  lsb : Byte
deriving DecidableEq, Repr

/-- The state at launch (R28, R152): PCX = 0, ERR = None, ERR_INFO = 0, and the rest as the parameters say. -/
def State.launch (l : Launch) : State where
  mem := l.mem
  acc := l.acc
  mar := l.mar
  ir := l.ir
  pc := l.pc
  pcx := false
  msb := l.msb
  lsb := l.lsb
  err := .none
  errInfo := 0#17

/-- The launch with PC_LAUNCH at its default 0x0000 (R28) and an empty image. R28 leaves ACC, MAR, IR, MSB, LSB and the cells unspecified:
zero here. DESIGN CHOICE, unsafe (log 1 to 6). -/
def Launch.default : Launch where
  mem := []
  pc := 0x0000#16
  acc := 0x00#8
  mar := 0x0000#16
  ir := 0x00#8
  msb := 0x00#8
  lsb := 0x00#8

/-- The machine right after reset: the spec treats reset as the launch (R152). -/
def State.reset : State := State.launch Launch.default

end Sys2Proof.Machine
end

