-- ==== Sys2Proof/Machine/Ops.lean ====
section
/-! DEFINITION. The named operations over memory and registers: the memory primitives (R11), the register writes of fetch (R73, R78 to
R82), the taken branch's write of PC (R117), and raising an error (R144). -/

namespace Sys2Proof.Machine

/-! ### Memory (R11, R15, R31) -/

/-- The content of the cell at address `a`. -/
def Memory.lookup : Memory → Nat → Byte
  | [], _ => Config.unlistedByte
  | (a', b) :: rest, a => if a = a' then b else Memory.lookup rest a

/-- Set the cell at address `a`, keeping the canonical form: a cell that becomes what an unlisted cell reads as is not listed. -/
def Memory.update : Memory → Nat → Byte → Memory
  | [], a, b => if b = Config.unlistedByte then [] else [(a, b)]
  | (a', b') :: rest, a, b =>
    if a < a' then (if b = Config.unlistedByte then (a', b') :: rest else (a, b) :: (a', b') :: rest)
    else if a = a' then (if b = Config.unlistedByte then rest else (a, b) :: rest)
    else (a', b') :: Memory.update rest a b

/-- `MemRead(a, 1) = M[a]` (R11). -/
def Memory.readByte (m : Memory) (a : Word) : Byte := Memory.lookup m a.toNat

/-- `MemWrite(a, 1, v)` (R11). -/
def Memory.writeByte (m : Memory) (a : Word) (v : Byte) : Memory := Memory.update m a.toNat v

/-- `MemRead(a, 2) = M[a] : M[(a + 1) mod 2^16]`, big-endian (R11, R31). The wrap at 0xFFFF is D5 (log 10). -/
def Memory.readWord (m : Memory) (a : Word) : Word := joinBytes (Memory.readByte m a) (Memory.readByte m (a + 1#16))

/-- `MemWrite(a, 2, v)`: `M[a] <- v[15:8]`, then `M[(a + 1) mod 2^16] <- v[7:0]` (R11, R31; D5, log 10). -/
def Memory.writeWord (m : Memory) (a : Word) (v : Word) : Memory :=
  Memory.writeByte (Memory.writeByte m a (hiByte v)) (a + 1#16) (loByte v)

/-- `MemRead(a, w/8)` (R11). -/
def Memory.readMem (m : Memory) (a : Word) : (w : Width) → BitVec w.bits
  | .w8 => Memory.readByte m a
  | .w16 => Memory.readWord m a

/-- `MemWrite(a, w/8, v)` (R11). -/
def Memory.writeMem (m : Memory) (a : Word) : (w : Width) → BitVec w.bits → Memory
  | .w8, v => Memory.writeByte m a v
  | .w16, v => Memory.writeWord m a v

/-- Store bytes at rising addresses, up to the top of memory. -/
def Memory.placeBytes (m : Memory) (a : Nat) : List Byte → Memory
  | [] => m
  | b :: rest => if a < 0x10000 then Memory.placeBytes (Memory.update m a b) (a + 1) rest else m

/-- `M[a]` of a state: the model's read of one byte. -/
def State.byteAt (s : State) (a : Word) : Byte := Memory.readByte s.mem a

/-- The big-endian word at `a` of a state. -/
def State.wordAt (s : State) (a : Word) : Word := Memory.readWord s.mem a

/-! ### Registers -/

/-- `ACC <- v` (R16). -/
def State.setAcc (s : State) (v : Byte) : State := { s with acc := v }

/-- `MAR <- v` (R17). -/
def State.setMar (s : State) (v : Word) : State := { s with mar := v }

/-- `MemWrite(a, w/8, v)` on a state (R11). -/
def State.store (s : State) (w : Width) (a : Word) (v : BitVec w.bits) : State :=
  { s with mem := Memory.writeMem s.mem a w v }

/-- The latch read as one value, `MSB:LSB` (R21). -/
def State.latch (s : State) : Word := joinBytes s.msb s.lsb

/-! ### The register writes of a successful fetch (R73) -/

/-- Latch one group (R78 to R80): a 2-byte group writes MSB and LSB, a 1-byte group writes MSB and leaves LSB (R82). -/
def State.latchGroup (s : State) : Group → State
  | .byte v => { s with msb := v }
  | .word v => { s with msb := hiByte v, lsb := loByte v }

/-- Latch the groups in order into the one latch pair, so that a later group overwrites an earlier one (R78). DESIGN CHOICE (the spec's,
D6; log 11). -/
def State.latchGroups (s : State) : List Group → State
  | [] => s
  | g :: gs => State.latchGroups (s.latchGroup g) gs

/-- Advance PC past an instruction of `len` bytes: `PC <- (p + len) mod 2^16` and `PCX <- (p + len == 0x10000)` (R81). PCX is D3 (log 8). -/
def State.advance (s : State) (len : Nat) : State :=
  { s with pc := s.pc + BitVec.ofNat 16 len, pcx := decide (s.pc.toNat + len = 0x10000) }

/-- All that a successful fetch writes: IR (R75), the latch (R78 to R82), PC and PCX (R81). -/
def State.fetched (s : State) (code : Byte) (gs : List Group) : State :=
  (State.latchGroups { s with ir := code } gs).advance (1 + (groupBytes gs).length)

/-- The state right after the fetch of instruction `i` at PC. -/
def fetchOf (i : Instr) (s : State) : State := s.fetched i.opcode i.groups

/-! ### Control transfer and errors -/

/-- A taken branch: `PC <- target`, `PCX <- 0` (R117; D3 for PCX, log 8). -/
def State.jump (s : State) (target : Word) : State := { s with pc := target, pcx := false }

/-- Raise an error: ERR and ERR_INFO are set and nothing else changes. No state is saved, no mode or mask exists, and control goes nowhere
(R12, R144). This is the whole of error entry. There is no return from an error: the core has no handler and no
return-from-trap instruction (R147). -/
def State.raise (s : State) (kind : Err) (info : ErrInfo) : State := { s with err := kind, errInfo := info }

end Sys2Proof.Machine
end

