-- ==== Sys2Proof/Machine/Operands.lean ====
section
/-! DEFINITION. Operand resolution and result write-back of the ALU family (R86 to R90). -/

namespace Sys2Proof.Machine

/-- `ReadDest(d, w)` (R86): operand op1. ACC and MAR are read at width `w`: `w` is 8 whenever the destination is ACC (R52), and an 8-bit
MAR operand is `MAR[7:0]` (R89; D8, log 13). -/
def readDest (d : Dest) (w : Width) (s : State) : BitVec w.bits :=
  match d with
  | .ind => Memory.readMem s.mem s.mar w
  | .acc => s.acc.setWidth w.bits
  | .mar => s.mar.setWidth w.bits
  | .abs => Memory.readMem s.mem s.latch w

/-- The immediate of width `w` in the latch: MSB alone if 8-bit, `MSB:LSB` if 16-bit (R61, R87). -/
def latchImmediate (w : Width) (s : State) : BitVec w.bits :=
  match w with
  | .w8 => s.msb
  | .w16 => s.latch

/-- `ReadSrc(s, w)` (R87): operand op2. -/
def readSrc (c : Src) (w : Width) (s : State) : BitVec w.bits :=
  match c with
  | .ind => Memory.readMem s.mem s.mar w
  | .acc => s.acc.setWidth w.bits
  | .imm => latchImmediate w s
  | .abs => Memory.readMem s.mem s.latch w

/-- What MAR becomes when an 8-bit result is written to it (R89, D8; the parameter I2). -/
def marFromByte (h : Config.Mar8HighByte) (old : Word) (r : Byte) : Word :=
  match h with
  | .zero => joinBytes 0x00#8 r
  | .keep => joinBytes (hiByte old) r

/-- `SaveResult(d, w, r)` (R88). ACC is written at width 8 only (R52). -/
def saveResult (d : Dest) (w : Width) (r : BitVec w.bits) (s : State) : State :=
  match d with
  | .ind => s.store w s.mar r
  | .acc => s.setAcc (r.setWidth 8)
  | .mar => s.setMar (match w with
    | .w8 => marFromByte Config.mar8HighByte s.mar r
    | .w16 => r)
  | .abs => s.store w s.latch r

end Sys2Proof.Machine
end

