-- ==== Sys2Proof/Machine/Alu.lean ====
section
/-! DEFINITION. The ALU family, 0x80 to 0xFF (41_alu.md R84 to R102): the ALU, the shared execute phase, and one meaning for each of the
128 forms. A meaning is the whole instruction: the register writes of its fetch, then its execute phase (log 20). No ALU
instruction writes a flag or raises an error (R100). -/

namespace Sys2Proof.Machine

/-- `compute(op1, op2, f, w)` (R91), modulo 2^w. op1 is the destination operand, so SUB is destination minus source: DESIGN CHOICE (the
spec's, D7; log 12). INC, DEC and NOT ignore op2. -/
def compute {w : Nat} (f : AluFunc) (op1 op2 : BitVec w) : BitVec w :=
  match f with
  | .and => op1 &&& op2
  | .or => op1 ||| op2
  | .xor => op1 ^^^ op2
  | .add => op1 + op2
  | .sub => op1 - op2
  | .inc => op1 + 1#w
  | .dec => op1 - 1#w
  | .not => ~~~op1

/-- The state after `execute_alu()` (R84): both operands are read before the result is written, the source operand for every function. -/
def aluResult (f : AluFunc) (d : Dest) (c : Src) (s : State) : State :=
  saveResult d (aluWidth d c) (compute f (readDest d (aluWidth d c) s) (readSrc c (aluWidth d c) s)) s

/-- `execute_alu()` after the fetch that left `s` (R84). It always succeeds (R100). -/
def executeAlu (f : AluFunc) (d : Dest) (c : Src) (s : State) : Result := .next (aluResult f d c s)

/-! ### AND (R92) -/

/-- `0x80` AND [MAR], [MAR]: w = 16, L = 1 (R92). -/
def execAndIndInd (s : State) : Result :=
  executeAlu .and .ind .ind (fetchOf (.andIndInd) s)

/-- `0x81` AND [MAR], ACC: w = 8, L = 1 (R92). -/
def execAndIndAcc (s : State) : Result :=
  executeAlu .and .ind .acc (fetchOf (.andIndAcc) s)

/-- `0x82` AND [MAR], #i16: w = 16, L = 3 (R92). -/
def execAndIndImm (imm : Word) (s : State) : Result :=
  executeAlu .and .ind .imm (fetchOf (.andIndImm imm) s)

/-- `0x83` AND [MAR], [a16]: w = 16, L = 3 (R92). -/
def execAndIndAbs (src : Word) (s : State) : Result :=
  executeAlu .and .ind .abs (fetchOf (.andIndAbs src) s)

/-- `0x84` AND ACC, [MAR]: w = 8, L = 1 (R92). -/
def execAndAccInd (s : State) : Result :=
  executeAlu .and .acc .ind (fetchOf (.andAccInd) s)

/-- `0x85` AND ACC, ACC: w = 8, L = 1 (R92). -/
def execAndAccAcc (s : State) : Result :=
  executeAlu .and .acc .acc (fetchOf (.andAccAcc) s)

/-- `0x86` AND ACC, #i8: w = 8, L = 2 (R92). -/
def execAndAccImm (imm : Byte) (s : State) : Result :=
  executeAlu .and .acc .imm (fetchOf (.andAccImm imm) s)

/-- `0x87` AND ACC, [a16]: w = 8, L = 3 (R92). -/
def execAndAccAbs (src : Word) (s : State) : Result :=
  executeAlu .and .acc .abs (fetchOf (.andAccAbs src) s)

/-- `0x88` AND MAR, [MAR]: w = 16, L = 1 (R92). -/
def execAndMarInd (s : State) : Result :=
  executeAlu .and .mar .ind (fetchOf (.andMarInd) s)

/-- `0x89` AND MAR, ACC: w = 8, L = 1 (R92, 8-bit MAR destination (R89)). -/
def execAndMarAcc (s : State) : Result :=
  executeAlu .and .mar .acc (fetchOf (.andMarAcc) s)

/-- `0x8A` AND MAR, #i16: w = 16, L = 3 (R92). -/
def execAndMarImm (imm : Word) (s : State) : Result :=
  executeAlu .and .mar .imm (fetchOf (.andMarImm imm) s)

/-- `0x8B` AND MAR, [a16]: w = 16, L = 3 (R92). -/
def execAndMarAbs (src : Word) (s : State) : Result :=
  executeAlu .and .mar .abs (fetchOf (.andMarAbs src) s)

/-- `0x8C` AND [a16], [MAR]: w = 16, L = 3 (R92). -/
def execAndAbsInd (dst : Word) (s : State) : Result :=
  executeAlu .and .abs .ind (fetchOf (.andAbsInd dst) s)

/-- `0x8D` AND [a16], ACC: w = 8, L = 3 (R92). -/
def execAndAbsAcc (dst : Word) (s : State) : Result :=
  executeAlu .and .abs .acc (fetchOf (.andAbsAcc dst) s)

/-- `0x8E` AND [a16], #i16: w = 16, L = 5 (R92, destination address replaced by the source group (R90)). -/
def execAndAbsImm (dst : Word) (imm : Word) (s : State) : Result :=
  executeAlu .and .abs .imm (fetchOf (.andAbsImm dst imm) s)

/-- `0x8F` AND [a16], [a16]: w = 16, L = 5 (R92, destination address replaced by the source group (R90)). -/
def execAndAbsAbs (dst : Word) (src : Word) (s : State) : Result :=
  executeAlu .and .abs .abs (fetchOf (.andAbsAbs dst src) s)

/-! ### OR (R93) -/

/-- `0x90` OR [MAR], [MAR]: w = 16, L = 1 (R93). -/
def execOrIndInd (s : State) : Result :=
  executeAlu .or .ind .ind (fetchOf (.orIndInd) s)

/-- `0x91` OR [MAR], ACC: w = 8, L = 1 (R93). -/
def execOrIndAcc (s : State) : Result :=
  executeAlu .or .ind .acc (fetchOf (.orIndAcc) s)

/-- `0x92` OR [MAR], #i16: w = 16, L = 3 (R93). -/
def execOrIndImm (imm : Word) (s : State) : Result :=
  executeAlu .or .ind .imm (fetchOf (.orIndImm imm) s)

/-- `0x93` OR [MAR], [a16]: w = 16, L = 3 (R93). -/
def execOrIndAbs (src : Word) (s : State) : Result :=
  executeAlu .or .ind .abs (fetchOf (.orIndAbs src) s)

/-- `0x94` OR ACC, [MAR]: w = 8, L = 1 (R93). -/
def execOrAccInd (s : State) : Result :=
  executeAlu .or .acc .ind (fetchOf (.orAccInd) s)

/-- `0x95` OR ACC, ACC: w = 8, L = 1 (R93). -/
def execOrAccAcc (s : State) : Result :=
  executeAlu .or .acc .acc (fetchOf (.orAccAcc) s)

/-- `0x96` OR ACC, #i8: w = 8, L = 2 (R93). -/
def execOrAccImm (imm : Byte) (s : State) : Result :=
  executeAlu .or .acc .imm (fetchOf (.orAccImm imm) s)

/-- `0x97` OR ACC, [a16]: w = 8, L = 3 (R93). -/
def execOrAccAbs (src : Word) (s : State) : Result :=
  executeAlu .or .acc .abs (fetchOf (.orAccAbs src) s)

/-- `0x98` OR MAR, [MAR]: w = 16, L = 1 (R93). -/
def execOrMarInd (s : State) : Result :=
  executeAlu .or .mar .ind (fetchOf (.orMarInd) s)

/-- `0x99` OR MAR, ACC: w = 8, L = 1 (R93, 8-bit MAR destination (R89)). -/
def execOrMarAcc (s : State) : Result :=
  executeAlu .or .mar .acc (fetchOf (.orMarAcc) s)

/-- `0x9A` OR MAR, #i16: w = 16, L = 3 (R93). -/
def execOrMarImm (imm : Word) (s : State) : Result :=
  executeAlu .or .mar .imm (fetchOf (.orMarImm imm) s)

/-- `0x9B` OR MAR, [a16]: w = 16, L = 3 (R93). -/
def execOrMarAbs (src : Word) (s : State) : Result :=
  executeAlu .or .mar .abs (fetchOf (.orMarAbs src) s)

/-- `0x9C` OR [a16], [MAR]: w = 16, L = 3 (R93). -/
def execOrAbsInd (dst : Word) (s : State) : Result :=
  executeAlu .or .abs .ind (fetchOf (.orAbsInd dst) s)

/-- `0x9D` OR [a16], ACC: w = 8, L = 3 (R93). -/
def execOrAbsAcc (dst : Word) (s : State) : Result :=
  executeAlu .or .abs .acc (fetchOf (.orAbsAcc dst) s)

/-- `0x9E` OR [a16], #i16: w = 16, L = 5 (R93, destination address replaced by the source group (R90)). -/
def execOrAbsImm (dst : Word) (imm : Word) (s : State) : Result :=
  executeAlu .or .abs .imm (fetchOf (.orAbsImm dst imm) s)

/-- `0x9F` OR [a16], [a16]: w = 16, L = 5 (R93, destination address replaced by the source group (R90)). -/
def execOrAbsAbs (dst : Word) (src : Word) (s : State) : Result :=
  executeAlu .or .abs .abs (fetchOf (.orAbsAbs dst src) s)

/-! ### XOR (R94) -/

/-- `0xA0` XOR [MAR], [MAR]: w = 16, L = 1 (R94). -/
def execXorIndInd (s : State) : Result :=
  executeAlu .xor .ind .ind (fetchOf (.xorIndInd) s)

/-- `0xA1` XOR [MAR], ACC: w = 8, L = 1 (R94). -/
def execXorIndAcc (s : State) : Result :=
  executeAlu .xor .ind .acc (fetchOf (.xorIndAcc) s)

/-- `0xA2` XOR [MAR], #i16: w = 16, L = 3 (R94). -/
def execXorIndImm (imm : Word) (s : State) : Result :=
  executeAlu .xor .ind .imm (fetchOf (.xorIndImm imm) s)

/-- `0xA3` XOR [MAR], [a16]: w = 16, L = 3 (R94). -/
def execXorIndAbs (src : Word) (s : State) : Result :=
  executeAlu .xor .ind .abs (fetchOf (.xorIndAbs src) s)

/-- `0xA4` XOR ACC, [MAR]: w = 8, L = 1 (R94). -/
def execXorAccInd (s : State) : Result :=
  executeAlu .xor .acc .ind (fetchOf (.xorAccInd) s)

/-- `0xA5` XOR ACC, ACC: w = 8, L = 1 (R94). -/
def execXorAccAcc (s : State) : Result :=
  executeAlu .xor .acc .acc (fetchOf (.xorAccAcc) s)

/-- `0xA6` XOR ACC, #i8: w = 8, L = 2 (R94). -/
def execXorAccImm (imm : Byte) (s : State) : Result :=
  executeAlu .xor .acc .imm (fetchOf (.xorAccImm imm) s)

/-- `0xA7` XOR ACC, [a16]: w = 8, L = 3 (R94). -/
def execXorAccAbs (src : Word) (s : State) : Result :=
  executeAlu .xor .acc .abs (fetchOf (.xorAccAbs src) s)

/-- `0xA8` XOR MAR, [MAR]: w = 16, L = 1 (R94). -/
def execXorMarInd (s : State) : Result :=
  executeAlu .xor .mar .ind (fetchOf (.xorMarInd) s)

/-- `0xA9` XOR MAR, ACC: w = 8, L = 1 (R94, 8-bit MAR destination (R89)). -/
def execXorMarAcc (s : State) : Result :=
  executeAlu .xor .mar .acc (fetchOf (.xorMarAcc) s)

/-- `0xAA` XOR MAR, #i16: w = 16, L = 3 (R94). -/
def execXorMarImm (imm : Word) (s : State) : Result :=
  executeAlu .xor .mar .imm (fetchOf (.xorMarImm imm) s)

/-- `0xAB` XOR MAR, [a16]: w = 16, L = 3 (R94). -/
def execXorMarAbs (src : Word) (s : State) : Result :=
  executeAlu .xor .mar .abs (fetchOf (.xorMarAbs src) s)

/-- `0xAC` XOR [a16], [MAR]: w = 16, L = 3 (R94). -/
def execXorAbsInd (dst : Word) (s : State) : Result :=
  executeAlu .xor .abs .ind (fetchOf (.xorAbsInd dst) s)

/-- `0xAD` XOR [a16], ACC: w = 8, L = 3 (R94). -/
def execXorAbsAcc (dst : Word) (s : State) : Result :=
  executeAlu .xor .abs .acc (fetchOf (.xorAbsAcc dst) s)

/-- `0xAE` XOR [a16], #i16: w = 16, L = 5 (R94, destination address replaced by the source group (R90)). -/
def execXorAbsImm (dst : Word) (imm : Word) (s : State) : Result :=
  executeAlu .xor .abs .imm (fetchOf (.xorAbsImm dst imm) s)

/-- `0xAF` XOR [a16], [a16]: w = 16, L = 5 (R94, destination address replaced by the source group (R90)). -/
def execXorAbsAbs (dst : Word) (src : Word) (s : State) : Result :=
  executeAlu .xor .abs .abs (fetchOf (.xorAbsAbs dst src) s)

/-! ### ADD (R95) -/

/-- `0xB0` ADD [MAR], [MAR]: w = 16, L = 1 (R95). -/
def execAddIndInd (s : State) : Result :=
  executeAlu .add .ind .ind (fetchOf (.addIndInd) s)

/-- `0xB1` ADD [MAR], ACC: w = 8, L = 1 (R95). -/
def execAddIndAcc (s : State) : Result :=
  executeAlu .add .ind .acc (fetchOf (.addIndAcc) s)

/-- `0xB2` ADD [MAR], #i16: w = 16, L = 3 (R95). -/
def execAddIndImm (imm : Word) (s : State) : Result :=
  executeAlu .add .ind .imm (fetchOf (.addIndImm imm) s)

/-- `0xB3` ADD [MAR], [a16]: w = 16, L = 3 (R95). -/
def execAddIndAbs (src : Word) (s : State) : Result :=
  executeAlu .add .ind .abs (fetchOf (.addIndAbs src) s)

/-- `0xB4` ADD ACC, [MAR]: w = 8, L = 1 (R95). -/
def execAddAccInd (s : State) : Result :=
  executeAlu .add .acc .ind (fetchOf (.addAccInd) s)

/-- `0xB5` ADD ACC, ACC: w = 8, L = 1 (R95). -/
def execAddAccAcc (s : State) : Result :=
  executeAlu .add .acc .acc (fetchOf (.addAccAcc) s)

/-- `0xB6` ADD ACC, #i8: w = 8, L = 2 (R95). -/
def execAddAccImm (imm : Byte) (s : State) : Result :=
  executeAlu .add .acc .imm (fetchOf (.addAccImm imm) s)

/-- `0xB7` ADD ACC, [a16]: w = 8, L = 3 (R95). -/
def execAddAccAbs (src : Word) (s : State) : Result :=
  executeAlu .add .acc .abs (fetchOf (.addAccAbs src) s)

/-- `0xB8` ADD MAR, [MAR]: w = 16, L = 1 (R95). -/
def execAddMarInd (s : State) : Result :=
  executeAlu .add .mar .ind (fetchOf (.addMarInd) s)

/-- `0xB9` ADD MAR, ACC: w = 8, L = 1 (R95, 8-bit MAR destination (R89)). -/
def execAddMarAcc (s : State) : Result :=
  executeAlu .add .mar .acc (fetchOf (.addMarAcc) s)

/-- `0xBA` ADD MAR, #i16: w = 16, L = 3 (R95). -/
def execAddMarImm (imm : Word) (s : State) : Result :=
  executeAlu .add .mar .imm (fetchOf (.addMarImm imm) s)

/-- `0xBB` ADD MAR, [a16]: w = 16, L = 3 (R95). -/
def execAddMarAbs (src : Word) (s : State) : Result :=
  executeAlu .add .mar .abs (fetchOf (.addMarAbs src) s)

/-- `0xBC` ADD [a16], [MAR]: w = 16, L = 3 (R95). -/
def execAddAbsInd (dst : Word) (s : State) : Result :=
  executeAlu .add .abs .ind (fetchOf (.addAbsInd dst) s)

/-- `0xBD` ADD [a16], ACC: w = 8, L = 3 (R95). -/
def execAddAbsAcc (dst : Word) (s : State) : Result :=
  executeAlu .add .abs .acc (fetchOf (.addAbsAcc dst) s)

/-- `0xBE` ADD [a16], #i16: w = 16, L = 5 (R95, destination address replaced by the source group (R90)). -/
def execAddAbsImm (dst : Word) (imm : Word) (s : State) : Result :=
  executeAlu .add .abs .imm (fetchOf (.addAbsImm dst imm) s)

/-- `0xBF` ADD [a16], [a16]: w = 16, L = 5 (R95, destination address replaced by the source group (R90)). -/
def execAddAbsAbs (dst : Word) (src : Word) (s : State) : Result :=
  executeAlu .add .abs .abs (fetchOf (.addAbsAbs dst src) s)

/-! ### SUB (R96) -/

/-- `0xC0` SUB [MAR], [MAR]: w = 16, L = 1 (R96). -/
def execSubIndInd (s : State) : Result :=
  executeAlu .sub .ind .ind (fetchOf (.subIndInd) s)

/-- `0xC1` SUB [MAR], ACC: w = 8, L = 1 (R96). -/
def execSubIndAcc (s : State) : Result :=
  executeAlu .sub .ind .acc (fetchOf (.subIndAcc) s)

/-- `0xC2` SUB [MAR], #i16: w = 16, L = 3 (R96). -/
def execSubIndImm (imm : Word) (s : State) : Result :=
  executeAlu .sub .ind .imm (fetchOf (.subIndImm imm) s)

/-- `0xC3` SUB [MAR], [a16]: w = 16, L = 3 (R96). -/
def execSubIndAbs (src : Word) (s : State) : Result :=
  executeAlu .sub .ind .abs (fetchOf (.subIndAbs src) s)

/-- `0xC4` SUB ACC, [MAR]: w = 8, L = 1 (R96). -/
def execSubAccInd (s : State) : Result :=
  executeAlu .sub .acc .ind (fetchOf (.subAccInd) s)

/-- `0xC5` SUB ACC, ACC: w = 8, L = 1 (R96). -/
def execSubAccAcc (s : State) : Result :=
  executeAlu .sub .acc .acc (fetchOf (.subAccAcc) s)

/-- `0xC6` SUB ACC, #i8: w = 8, L = 2 (R96). -/
def execSubAccImm (imm : Byte) (s : State) : Result :=
  executeAlu .sub .acc .imm (fetchOf (.subAccImm imm) s)

/-- `0xC7` SUB ACC, [a16]: w = 8, L = 3 (R96). -/
def execSubAccAbs (src : Word) (s : State) : Result :=
  executeAlu .sub .acc .abs (fetchOf (.subAccAbs src) s)

/-- `0xC8` SUB MAR, [MAR]: w = 16, L = 1 (R96). -/
def execSubMarInd (s : State) : Result :=
  executeAlu .sub .mar .ind (fetchOf (.subMarInd) s)

/-- `0xC9` SUB MAR, ACC: w = 8, L = 1 (R96, 8-bit MAR destination (R89)). -/
def execSubMarAcc (s : State) : Result :=
  executeAlu .sub .mar .acc (fetchOf (.subMarAcc) s)

/-- `0xCA` SUB MAR, #i16: w = 16, L = 3 (R96). -/
def execSubMarImm (imm : Word) (s : State) : Result :=
  executeAlu .sub .mar .imm (fetchOf (.subMarImm imm) s)

/-- `0xCB` SUB MAR, [a16]: w = 16, L = 3 (R96). -/
def execSubMarAbs (src : Word) (s : State) : Result :=
  executeAlu .sub .mar .abs (fetchOf (.subMarAbs src) s)

/-- `0xCC` SUB [a16], [MAR]: w = 16, L = 3 (R96). -/
def execSubAbsInd (dst : Word) (s : State) : Result :=
  executeAlu .sub .abs .ind (fetchOf (.subAbsInd dst) s)

/-- `0xCD` SUB [a16], ACC: w = 8, L = 3 (R96). -/
def execSubAbsAcc (dst : Word) (s : State) : Result :=
  executeAlu .sub .abs .acc (fetchOf (.subAbsAcc dst) s)

/-- `0xCE` SUB [a16], #i16: w = 16, L = 5 (R96, destination address replaced by the source group (R90)). -/
def execSubAbsImm (dst : Word) (imm : Word) (s : State) : Result :=
  executeAlu .sub .abs .imm (fetchOf (.subAbsImm dst imm) s)

/-- `0xCF` SUB [a16], [a16]: w = 16, L = 5 (R96, destination address replaced by the source group (R90)). -/
def execSubAbsAbs (dst : Word) (src : Word) (s : State) : Result :=
  executeAlu .sub .abs .abs (fetchOf (.subAbsAbs dst src) s)

/-! ### INC (R97) -/

/-- `0xD0` INC [MAR], [MAR]: w = 16, L = 1 (R97). -/
def execIncIndInd (s : State) : Result :=
  executeAlu .inc .ind .ind (fetchOf (.incIndInd) s)

/-- `0xD1` INC [MAR], ACC: w = 8, L = 1 (R97). -/
def execIncIndAcc (s : State) : Result :=
  executeAlu .inc .ind .acc (fetchOf (.incIndAcc) s)

/-- `0xD2` INC [MAR], #i16: w = 16, L = 3 (R97). -/
def execIncIndImm (imm : Word) (s : State) : Result :=
  executeAlu .inc .ind .imm (fetchOf (.incIndImm imm) s)

/-- `0xD3` INC [MAR], [a16]: w = 16, L = 3 (R97). -/
def execIncIndAbs (src : Word) (s : State) : Result :=
  executeAlu .inc .ind .abs (fetchOf (.incIndAbs src) s)

/-- `0xD4` INC ACC, [MAR]: w = 8, L = 1 (R97). -/
def execIncAccInd (s : State) : Result :=
  executeAlu .inc .acc .ind (fetchOf (.incAccInd) s)

/-- `0xD5` INC ACC, ACC: w = 8, L = 1 (R97). -/
def execIncAccAcc (s : State) : Result :=
  executeAlu .inc .acc .acc (fetchOf (.incAccAcc) s)

/-- `0xD6` INC ACC, #i8: w = 8, L = 2 (R97). -/
def execIncAccImm (imm : Byte) (s : State) : Result :=
  executeAlu .inc .acc .imm (fetchOf (.incAccImm imm) s)

/-- `0xD7` INC ACC, [a16]: w = 8, L = 3 (R97). -/
def execIncAccAbs (src : Word) (s : State) : Result :=
  executeAlu .inc .acc .abs (fetchOf (.incAccAbs src) s)

/-- `0xD8` INC MAR, [MAR]: w = 16, L = 1 (R97). -/
def execIncMarInd (s : State) : Result :=
  executeAlu .inc .mar .ind (fetchOf (.incMarInd) s)

/-- `0xD9` INC MAR, ACC: w = 8, L = 1 (R97, 8-bit MAR destination (R89)). -/
def execIncMarAcc (s : State) : Result :=
  executeAlu .inc .mar .acc (fetchOf (.incMarAcc) s)

/-- `0xDA` INC MAR, #i16: w = 16, L = 3 (R97). -/
def execIncMarImm (imm : Word) (s : State) : Result :=
  executeAlu .inc .mar .imm (fetchOf (.incMarImm imm) s)

/-- `0xDB` INC MAR, [a16]: w = 16, L = 3 (R97). -/
def execIncMarAbs (src : Word) (s : State) : Result :=
  executeAlu .inc .mar .abs (fetchOf (.incMarAbs src) s)

/-- `0xDC` INC [a16], [MAR]: w = 16, L = 3 (R97). -/
def execIncAbsInd (dst : Word) (s : State) : Result :=
  executeAlu .inc .abs .ind (fetchOf (.incAbsInd dst) s)

/-- `0xDD` INC [a16], ACC: w = 8, L = 3 (R97). -/
def execIncAbsAcc (dst : Word) (s : State) : Result :=
  executeAlu .inc .abs .acc (fetchOf (.incAbsAcc dst) s)

/-- `0xDE` INC [a16], #i16: w = 16, L = 5 (R97, destination address replaced by the source group (R90)). -/
def execIncAbsImm (dst : Word) (imm : Word) (s : State) : Result :=
  executeAlu .inc .abs .imm (fetchOf (.incAbsImm dst imm) s)

/-- `0xDF` INC [a16], [a16]: w = 16, L = 5 (R97, destination address replaced by the source group (R90)). -/
def execIncAbsAbs (dst : Word) (src : Word) (s : State) : Result :=
  executeAlu .inc .abs .abs (fetchOf (.incAbsAbs dst src) s)

/-! ### DEC (R98) -/

/-- `0xE0` DEC [MAR], [MAR]: w = 16, L = 1 (R98). -/
def execDecIndInd (s : State) : Result :=
  executeAlu .dec .ind .ind (fetchOf (.decIndInd) s)

/-- `0xE1` DEC [MAR], ACC: w = 8, L = 1 (R98). -/
def execDecIndAcc (s : State) : Result :=
  executeAlu .dec .ind .acc (fetchOf (.decIndAcc) s)

/-- `0xE2` DEC [MAR], #i16: w = 16, L = 3 (R98). -/
def execDecIndImm (imm : Word) (s : State) : Result :=
  executeAlu .dec .ind .imm (fetchOf (.decIndImm imm) s)

/-- `0xE3` DEC [MAR], [a16]: w = 16, L = 3 (R98). -/
def execDecIndAbs (src : Word) (s : State) : Result :=
  executeAlu .dec .ind .abs (fetchOf (.decIndAbs src) s)

/-- `0xE4` DEC ACC, [MAR]: w = 8, L = 1 (R98). -/
def execDecAccInd (s : State) : Result :=
  executeAlu .dec .acc .ind (fetchOf (.decAccInd) s)

/-- `0xE5` DEC ACC, ACC: w = 8, L = 1 (R98). -/
def execDecAccAcc (s : State) : Result :=
  executeAlu .dec .acc .acc (fetchOf (.decAccAcc) s)

/-- `0xE6` DEC ACC, #i8: w = 8, L = 2 (R98). -/
def execDecAccImm (imm : Byte) (s : State) : Result :=
  executeAlu .dec .acc .imm (fetchOf (.decAccImm imm) s)

/-- `0xE7` DEC ACC, [a16]: w = 8, L = 3 (R98). -/
def execDecAccAbs (src : Word) (s : State) : Result :=
  executeAlu .dec .acc .abs (fetchOf (.decAccAbs src) s)

/-- `0xE8` DEC MAR, [MAR]: w = 16, L = 1 (R98). -/
def execDecMarInd (s : State) : Result :=
  executeAlu .dec .mar .ind (fetchOf (.decMarInd) s)

/-- `0xE9` DEC MAR, ACC: w = 8, L = 1 (R98, 8-bit MAR destination (R89)). -/
def execDecMarAcc (s : State) : Result :=
  executeAlu .dec .mar .acc (fetchOf (.decMarAcc) s)

/-- `0xEA` DEC MAR, #i16: w = 16, L = 3 (R98). -/
def execDecMarImm (imm : Word) (s : State) : Result :=
  executeAlu .dec .mar .imm (fetchOf (.decMarImm imm) s)

/-- `0xEB` DEC MAR, [a16]: w = 16, L = 3 (R98). -/
def execDecMarAbs (src : Word) (s : State) : Result :=
  executeAlu .dec .mar .abs (fetchOf (.decMarAbs src) s)

/-- `0xEC` DEC [a16], [MAR]: w = 16, L = 3 (R98). -/
def execDecAbsInd (dst : Word) (s : State) : Result :=
  executeAlu .dec .abs .ind (fetchOf (.decAbsInd dst) s)

/-- `0xED` DEC [a16], ACC: w = 8, L = 3 (R98). -/
def execDecAbsAcc (dst : Word) (s : State) : Result :=
  executeAlu .dec .abs .acc (fetchOf (.decAbsAcc dst) s)

/-- `0xEE` DEC [a16], #i16: w = 16, L = 5 (R98, destination address replaced by the source group (R90)). -/
def execDecAbsImm (dst : Word) (imm : Word) (s : State) : Result :=
  executeAlu .dec .abs .imm (fetchOf (.decAbsImm dst imm) s)

/-- `0xEF` DEC [a16], [a16]: w = 16, L = 5 (R98, destination address replaced by the source group (R90)). -/
def execDecAbsAbs (dst : Word) (src : Word) (s : State) : Result :=
  executeAlu .dec .abs .abs (fetchOf (.decAbsAbs dst src) s)

/-! ### NOT (R99) -/

/-- `0xF0` NOT [MAR], [MAR]: w = 16, L = 1 (R99). -/
def execNotIndInd (s : State) : Result :=
  executeAlu .not .ind .ind (fetchOf (.notIndInd) s)

/-- `0xF1` NOT [MAR], ACC: w = 8, L = 1 (R99). -/
def execNotIndAcc (s : State) : Result :=
  executeAlu .not .ind .acc (fetchOf (.notIndAcc) s)

/-- `0xF2` NOT [MAR], #i16: w = 16, L = 3 (R99). -/
def execNotIndImm (imm : Word) (s : State) : Result :=
  executeAlu .not .ind .imm (fetchOf (.notIndImm imm) s)

/-- `0xF3` NOT [MAR], [a16]: w = 16, L = 3 (R99). -/
def execNotIndAbs (src : Word) (s : State) : Result :=
  executeAlu .not .ind .abs (fetchOf (.notIndAbs src) s)

/-- `0xF4` NOT ACC, [MAR]: w = 8, L = 1 (R99). -/
def execNotAccInd (s : State) : Result :=
  executeAlu .not .acc .ind (fetchOf (.notAccInd) s)

/-- `0xF5` NOT ACC, ACC: w = 8, L = 1 (R99). -/
def execNotAccAcc (s : State) : Result :=
  executeAlu .not .acc .acc (fetchOf (.notAccAcc) s)

/-- `0xF6` NOT ACC, #i8: w = 8, L = 2 (R99). -/
def execNotAccImm (imm : Byte) (s : State) : Result :=
  executeAlu .not .acc .imm (fetchOf (.notAccImm imm) s)

/-- `0xF7` NOT ACC, [a16]: w = 8, L = 3 (R99). -/
def execNotAccAbs (src : Word) (s : State) : Result :=
  executeAlu .not .acc .abs (fetchOf (.notAccAbs src) s)

/-- `0xF8` NOT MAR, [MAR]: w = 16, L = 1 (R99). -/
def execNotMarInd (s : State) : Result :=
  executeAlu .not .mar .ind (fetchOf (.notMarInd) s)

/-- `0xF9` NOT MAR, ACC: w = 8, L = 1 (R99, 8-bit MAR destination (R89)). -/
def execNotMarAcc (s : State) : Result :=
  executeAlu .not .mar .acc (fetchOf (.notMarAcc) s)

/-- `0xFA` NOT MAR, #i16: w = 16, L = 3 (R99). -/
def execNotMarImm (imm : Word) (s : State) : Result :=
  executeAlu .not .mar .imm (fetchOf (.notMarImm imm) s)

/-- `0xFB` NOT MAR, [a16]: w = 16, L = 3 (R99). -/
def execNotMarAbs (src : Word) (s : State) : Result :=
  executeAlu .not .mar .abs (fetchOf (.notMarAbs src) s)

/-- `0xFC` NOT [a16], [MAR]: w = 16, L = 3 (R99). -/
def execNotAbsInd (dst : Word) (s : State) : Result :=
  executeAlu .not .abs .ind (fetchOf (.notAbsInd dst) s)

/-- `0xFD` NOT [a16], ACC: w = 8, L = 3 (R99). -/
def execNotAbsAcc (dst : Word) (s : State) : Result :=
  executeAlu .not .abs .acc (fetchOf (.notAbsAcc dst) s)

/-- `0xFE` NOT [a16], #i16: w = 16, L = 5 (R99, destination address replaced by the source group (R90)). -/
def execNotAbsImm (dst : Word) (imm : Word) (s : State) : Result :=
  executeAlu .not .abs .imm (fetchOf (.notAbsImm dst imm) s)

/-- `0xFF` NOT [a16], [a16]: w = 16, L = 5 (R99, destination address replaced by the source group (R90)). -/
def execNotAbsAbs (dst : Word) (src : Word) (s : State) : Result :=
  executeAlu .not .abs .abs (fetchOf (.notAbsAbs dst src) s)

end Sys2Proof.Machine
end

