-- ==== Sys2Proof/Machine/Flags.lean ====
section
/-! DEFINITION. Branch conditions. The hardware has no flags (R23): a condition reads ACC as it stands (R118). -/

namespace Sys2Proof.Machine

/-- `neg = (ACC[7] == 1)` (R118). -/
def accNeg (acc : Byte) : Bool := acc.getLsbD 7

/-- `zero = (ACC == 0x00)` (R118). -/
def accZero (acc : Byte) : Bool := acc == 0x00#8

/-- `cond(t, ACC)` (R118). Type 7 is never taken: DESIGN CHOICE (the spec's, D9; log 14). -/
def branchCond (t : BrType) (acc : Byte) : Bool :=
  match t with
  | .bra => true
  | .brz => accZero acc
  | .bnz => !accZero acc
  | .blt => accNeg acc
  | .ble => accNeg acc || accZero acc
  | .bgt => !accNeg acc && !accZero acc
  | .bge => !accNeg acc
  | .br7 => false

end Sys2Proof.Machine
end

