-- ==== Sys2Proof/Machine/Branch.lean ====
section
/-! DEFINITION. The BR family, 0x10 to 0x7F (43_branch.md R117 to R127): the shared execute phase and one meaning for each type. A meaning
is the whole instruction: the register writes of its fetch, then its execute phase (log 20). The operand `b` is bits 6:3 of the
opcode; it reaches IR and nothing else (R66). -/

namespace Sys2Proof.Machine

/-- The state after `execute_br()` (R117): PC becomes `MSB:LSB` if the condition holds on ACC, and stays as fetch left it otherwise. -/
def branchResult (t : BrType) (s : State) : State :=
  if branchCond t s.acc then s.jump s.latch else s

/-- `execute_br()` after the fetch that left `s` (R117). A branch raises no error. -/
def executeBranch (t : BrType) (s : State) : Result := .next (branchResult t s)

/-- BRA, type 0, canonical `0x10`: taken when always (R119). -/
def execBra (b : BitVec 4) (target : Word) (s : State) : Result :=
  executeBranch .bra (fetchOf (.bra b target) s)

/-- BRZ, type 1, canonical `0x11`: taken when ACC == 0x00 (R120). -/
def execBrz (b : BitVec 4) (target : Word) (s : State) : Result :=
  executeBranch .brz (fetchOf (.brz b target) s)

/-- BNZ, type 2, canonical `0x12`: taken when ACC != 0x00 (R121). -/
def execBnz (b : BitVec 4) (target : Word) (s : State) : Result :=
  executeBranch .bnz (fetchOf (.bnz b target) s)

/-- BLT, type 3, canonical `0x13`: taken when ACC[7] == 1 (R122). -/
def execBlt (b : BitVec 4) (target : Word) (s : State) : Result :=
  executeBranch .blt (fetchOf (.blt b target) s)

/-- BLE, type 4, canonical `0x14`: taken when ACC[7] == 1 or ACC == 0 (R123). -/
def execBle (b : BitVec 4) (target : Word) (s : State) : Result :=
  executeBranch .ble (fetchOf (.ble b target) s)

/-- BGT, type 5, canonical `0x15`: taken when ACC[7] == 0 and ACC != 0 (R124). -/
def execBgt (b : BitVec 4) (target : Word) (s : State) : Result :=
  executeBranch .bgt (fetchOf (.bgt b target) s)

/-- BGE, type 6, canonical `0x16`: taken when ACC[7] == 0 (R125). -/
def execBge (b : BitVec 4) (target : Word) (s : State) : Result :=
  executeBranch .bge (fetchOf (.bge b target) s)

/-- BR7, type 7, canonical `0x17`: taken when never (R126). -/
def execBr7 (b : BitVec 4) (target : Word) (s : State) : Result :=
  executeBranch .br7 (fetchOf (.br7 b target) s)

end Sys2Proof.Machine
end

