-- ==== Sys2Proof/Machine/MemTransfer.lean ====
section
/-! DEFINITION. The MEM family, 0x00 to 0x0F (42_memory_access.md R103 to R116): the shared transfers and one meaning for each of the 16
opcodes. A meaning is the whole instruction: the register writes of its fetch, then its execute phase (log 20). -/

namespace Sys2Proof.Machine

/-- Where a transfer's memory operand is: at `MSB:LSB` (method 0) or at MAR (method 2) (R62). -/
inductive Place where
  | absolute
  | viaMar
deriving DecidableEq, Repr

/-- The address of a place. -/
def placeAddr (p : Place) (s : State) : Word :=
  match p with
  | .absolute => s.latch
  | .viaMar => s.mar

/-- `ACC <- MemRead(A, 1)` (R104, R106). -/
def loadAccFrom (p : Place) (s : State) : Result := .next (s.setAcc (s.byteAt (placeAddr p s)))

/-- `ACC <- MSB` (R105). -/
def loadAccLatch (s : State) : Result := .next (s.setAcc s.msb)

/-- `MAR <- MemRead(A, 2)`, both bytes read at the old address (R107, R109). -/
def loadMarFrom (p : Place) (s : State) : Result := .next (s.setMar (s.wordAt (placeAddr p s)))

/-- `MAR <- MSB:LSB` (R108). -/
def loadMarLatch (s : State) : Result := .next (s.setMar s.latch)

/-- `MemWrite(A, 1, ACC)` (R110, R111). -/
def storeAccTo (p : Place) (s : State) : Result := .next (s.store .w8 (placeAddr p s) s.acc)

/-- `MemWrite(A, 2, MAR)` (R112, R113). -/
def storeMarTo (p : Place) (s : State) : Result := .next (s.store .w16 (placeAddr p s) s.mar)

/-- `raise UnresolvedAddress(ERR_INFO = IR)` and no other effect (R114, R115, R141): the state the fetch left, with the error set (R146).
DESIGN CHOICE (the spec's, D10, D11; log 15, 16). -/
def raiseUnresolved (s : State) : Result := .next (s.raise .unresolvedAddress (s.ir.setWidth 17))

/-- `0x00` STORE ACC, [a16]: L = 3 (R110). -/
def execStoreAccAbs (addr : Word) (s : State) : Result :=
  storeAccTo .absolute (fetchOf (.storeAccAbs addr) s)

/-- `0x01` STORE ACC, #imm: L = 2 (R114). -/
def execStoreAccImm (imm : Byte) (s : State) : Result :=
  raiseUnresolved (fetchOf (.storeAccImm imm) s)

/-- `0x02` STORE ACC, [MAR]: L = 1 (R111). -/
def execStoreAccInd (s : State) : Result :=
  storeAccTo .viaMar (fetchOf (.storeAccInd) s)

/-- `0x03` STORE ACC, method 3: L = 1 (R115). -/
def execStoreAccMethod3 (s : State) : Result :=
  raiseUnresolved (fetchOf (.storeAccMethod3) s)

/-- `0x04` STORE MAR, [a16]: L = 3 (R112). -/
def execStoreMarAbs (addr : Word) (s : State) : Result :=
  storeMarTo .absolute (fetchOf (.storeMarAbs addr) s)

/-- `0x05` STORE MAR, #imm: L = 3 (R114). -/
def execStoreMarImm (imm : Word) (s : State) : Result :=
  raiseUnresolved (fetchOf (.storeMarImm imm) s)

/-- `0x06` STORE MAR, [MAR]: L = 1 (R113). -/
def execStoreMarInd (s : State) : Result :=
  storeMarTo .viaMar (fetchOf (.storeMarInd) s)

/-- `0x07` STORE MAR, method 3: L = 1 (R115). -/
def execStoreMarMethod3 (s : State) : Result :=
  raiseUnresolved (fetchOf (.storeMarMethod3) s)

/-- `0x08` LOAD ACC, [a16]: L = 3 (R104). -/
def execLoadAccAbs (addr : Word) (s : State) : Result :=
  loadAccFrom .absolute (fetchOf (.loadAccAbs addr) s)

/-- `0x09` LOAD ACC, #i8: L = 2 (R105). -/
def execLoadAccImm (imm : Byte) (s : State) : Result :=
  loadAccLatch (fetchOf (.loadAccImm imm) s)

/-- `0x0A` LOAD ACC, [MAR]: L = 1 (R106). -/
def execLoadAccInd (s : State) : Result :=
  loadAccFrom .viaMar (fetchOf (.loadAccInd) s)

/-- `0x0B` LOAD ACC, method 3: L = 1 (R115). -/
def execLoadAccMethod3 (s : State) : Result :=
  raiseUnresolved (fetchOf (.loadAccMethod3) s)

/-- `0x0C` LOAD MAR, [a16]: L = 3 (R107). -/
def execLoadMarAbs (addr : Word) (s : State) : Result :=
  loadMarFrom .absolute (fetchOf (.loadMarAbs addr) s)

/-- `0x0D` LOAD MAR, #i16: L = 3 (R108). -/
def execLoadMarImm (imm : Word) (s : State) : Result :=
  loadMarLatch (fetchOf (.loadMarImm imm) s)

/-- `0x0E` LOAD MAR, [MAR]: L = 1 (R109). -/
def execLoadMarInd (s : State) : Result :=
  loadMarFrom .viaMar (fetchOf (.loadMarInd) s)

/-- `0x0F` LOAD MAR, method 3: L = 1 (R115). -/
def execLoadMarMethod3 (s : State) : Result :=
  raiseUnresolved (fetchOf (.loadMarMethod3) s)

end Sys2Proof.Machine
end

