-- ==== Sys2Proof/Machine/Dispatch.lean ====
section
/-! DEFINITION. The dispatcher (R128): one arm per constructor of Instr, each one call of that instruction's meaning. -/

namespace Sys2Proof.Machine

/-- What the core does for instruction `i` fetched at PC (R131: the register writes of its fetch, then its execute). -/
def exec (i : Instr) (s : State) : Host.Outcome State Fault Refusal :=
  match i with
  -- ALU
  | .andIndInd => Sys2Proof.Machine.execAndIndInd s
  | .andIndAcc => Sys2Proof.Machine.execAndIndAcc s
  | .andIndImm imm => Sys2Proof.Machine.execAndIndImm imm s
  | .andIndAbs src => Sys2Proof.Machine.execAndIndAbs src s
  | .andAccInd => Sys2Proof.Machine.execAndAccInd s
  | .andAccAcc => Sys2Proof.Machine.execAndAccAcc s
  | .andAccImm imm => Sys2Proof.Machine.execAndAccImm imm s
  | .andAccAbs src => Sys2Proof.Machine.execAndAccAbs src s
  | .andMarInd => Sys2Proof.Machine.execAndMarInd s
  | .andMarAcc => Sys2Proof.Machine.execAndMarAcc s
  | .andMarImm imm => Sys2Proof.Machine.execAndMarImm imm s
  | .andMarAbs src => Sys2Proof.Machine.execAndMarAbs src s
  | .andAbsInd dst => Sys2Proof.Machine.execAndAbsInd dst s
  | .andAbsAcc dst => Sys2Proof.Machine.execAndAbsAcc dst s
  | .andAbsImm dst imm => Sys2Proof.Machine.execAndAbsImm dst imm s
  | .andAbsAbs dst src => Sys2Proof.Machine.execAndAbsAbs dst src s
  | .orIndInd => Sys2Proof.Machine.execOrIndInd s
  | .orIndAcc => Sys2Proof.Machine.execOrIndAcc s
  | .orIndImm imm => Sys2Proof.Machine.execOrIndImm imm s
  | .orIndAbs src => Sys2Proof.Machine.execOrIndAbs src s
  | .orAccInd => Sys2Proof.Machine.execOrAccInd s
  | .orAccAcc => Sys2Proof.Machine.execOrAccAcc s
  | .orAccImm imm => Sys2Proof.Machine.execOrAccImm imm s
  | .orAccAbs src => Sys2Proof.Machine.execOrAccAbs src s
  | .orMarInd => Sys2Proof.Machine.execOrMarInd s
  | .orMarAcc => Sys2Proof.Machine.execOrMarAcc s
  | .orMarImm imm => Sys2Proof.Machine.execOrMarImm imm s
  | .orMarAbs src => Sys2Proof.Machine.execOrMarAbs src s
  | .orAbsInd dst => Sys2Proof.Machine.execOrAbsInd dst s
  | .orAbsAcc dst => Sys2Proof.Machine.execOrAbsAcc dst s
  | .orAbsImm dst imm => Sys2Proof.Machine.execOrAbsImm dst imm s
  | .orAbsAbs dst src => Sys2Proof.Machine.execOrAbsAbs dst src s
  | .xorIndInd => Sys2Proof.Machine.execXorIndInd s
  | .xorIndAcc => Sys2Proof.Machine.execXorIndAcc s
  | .xorIndImm imm => Sys2Proof.Machine.execXorIndImm imm s
  | .xorIndAbs src => Sys2Proof.Machine.execXorIndAbs src s
  | .xorAccInd => Sys2Proof.Machine.execXorAccInd s
  | .xorAccAcc => Sys2Proof.Machine.execXorAccAcc s
  | .xorAccImm imm => Sys2Proof.Machine.execXorAccImm imm s
  | .xorAccAbs src => Sys2Proof.Machine.execXorAccAbs src s
  | .xorMarInd => Sys2Proof.Machine.execXorMarInd s
  | .xorMarAcc => Sys2Proof.Machine.execXorMarAcc s
  | .xorMarImm imm => Sys2Proof.Machine.execXorMarImm imm s
  | .xorMarAbs src => Sys2Proof.Machine.execXorMarAbs src s
  | .xorAbsInd dst => Sys2Proof.Machine.execXorAbsInd dst s
  | .xorAbsAcc dst => Sys2Proof.Machine.execXorAbsAcc dst s
  | .xorAbsImm dst imm => Sys2Proof.Machine.execXorAbsImm dst imm s
  | .xorAbsAbs dst src => Sys2Proof.Machine.execXorAbsAbs dst src s
  | .addIndInd => Sys2Proof.Machine.execAddIndInd s
  | .addIndAcc => Sys2Proof.Machine.execAddIndAcc s
  | .addIndImm imm => Sys2Proof.Machine.execAddIndImm imm s
  | .addIndAbs src => Sys2Proof.Machine.execAddIndAbs src s
  | .addAccInd => Sys2Proof.Machine.execAddAccInd s
  | .addAccAcc => Sys2Proof.Machine.execAddAccAcc s
  | .addAccImm imm => Sys2Proof.Machine.execAddAccImm imm s
  | .addAccAbs src => Sys2Proof.Machine.execAddAccAbs src s
  | .addMarInd => Sys2Proof.Machine.execAddMarInd s
  | .addMarAcc => Sys2Proof.Machine.execAddMarAcc s
  | .addMarImm imm => Sys2Proof.Machine.execAddMarImm imm s
  | .addMarAbs src => Sys2Proof.Machine.execAddMarAbs src s
  | .addAbsInd dst => Sys2Proof.Machine.execAddAbsInd dst s
  | .addAbsAcc dst => Sys2Proof.Machine.execAddAbsAcc dst s
  | .addAbsImm dst imm => Sys2Proof.Machine.execAddAbsImm dst imm s
  | .addAbsAbs dst src => Sys2Proof.Machine.execAddAbsAbs dst src s
  | .subIndInd => Sys2Proof.Machine.execSubIndInd s
  | .subIndAcc => Sys2Proof.Machine.execSubIndAcc s
  | .subIndImm imm => Sys2Proof.Machine.execSubIndImm imm s
  | .subIndAbs src => Sys2Proof.Machine.execSubIndAbs src s
  | .subAccInd => Sys2Proof.Machine.execSubAccInd s
  | .subAccAcc => Sys2Proof.Machine.execSubAccAcc s
  | .subAccImm imm => Sys2Proof.Machine.execSubAccImm imm s
  | .subAccAbs src => Sys2Proof.Machine.execSubAccAbs src s
  | .subMarInd => Sys2Proof.Machine.execSubMarInd s
  | .subMarAcc => Sys2Proof.Machine.execSubMarAcc s
  | .subMarImm imm => Sys2Proof.Machine.execSubMarImm imm s
  | .subMarAbs src => Sys2Proof.Machine.execSubMarAbs src s
  | .subAbsInd dst => Sys2Proof.Machine.execSubAbsInd dst s
  | .subAbsAcc dst => Sys2Proof.Machine.execSubAbsAcc dst s
  | .subAbsImm dst imm => Sys2Proof.Machine.execSubAbsImm dst imm s
  | .subAbsAbs dst src => Sys2Proof.Machine.execSubAbsAbs dst src s
  | .incIndInd => Sys2Proof.Machine.execIncIndInd s
  | .incIndAcc => Sys2Proof.Machine.execIncIndAcc s
  | .incIndImm imm => Sys2Proof.Machine.execIncIndImm imm s
  | .incIndAbs src => Sys2Proof.Machine.execIncIndAbs src s
  | .incAccInd => Sys2Proof.Machine.execIncAccInd s
  | .incAccAcc => Sys2Proof.Machine.execIncAccAcc s
  | .incAccImm imm => Sys2Proof.Machine.execIncAccImm imm s
  | .incAccAbs src => Sys2Proof.Machine.execIncAccAbs src s
  | .incMarInd => Sys2Proof.Machine.execIncMarInd s
  | .incMarAcc => Sys2Proof.Machine.execIncMarAcc s
  | .incMarImm imm => Sys2Proof.Machine.execIncMarImm imm s
  | .incMarAbs src => Sys2Proof.Machine.execIncMarAbs src s
  | .incAbsInd dst => Sys2Proof.Machine.execIncAbsInd dst s
  | .incAbsAcc dst => Sys2Proof.Machine.execIncAbsAcc dst s
  | .incAbsImm dst imm => Sys2Proof.Machine.execIncAbsImm dst imm s
  | .incAbsAbs dst src => Sys2Proof.Machine.execIncAbsAbs dst src s
  | .decIndInd => Sys2Proof.Machine.execDecIndInd s
  | .decIndAcc => Sys2Proof.Machine.execDecIndAcc s
  | .decIndImm imm => Sys2Proof.Machine.execDecIndImm imm s
  | .decIndAbs src => Sys2Proof.Machine.execDecIndAbs src s
  | .decAccInd => Sys2Proof.Machine.execDecAccInd s
  | .decAccAcc => Sys2Proof.Machine.execDecAccAcc s
  | .decAccImm imm => Sys2Proof.Machine.execDecAccImm imm s
  | .decAccAbs src => Sys2Proof.Machine.execDecAccAbs src s
  | .decMarInd => Sys2Proof.Machine.execDecMarInd s
  | .decMarAcc => Sys2Proof.Machine.execDecMarAcc s
  | .decMarImm imm => Sys2Proof.Machine.execDecMarImm imm s
  | .decMarAbs src => Sys2Proof.Machine.execDecMarAbs src s
  | .decAbsInd dst => Sys2Proof.Machine.execDecAbsInd dst s
  | .decAbsAcc dst => Sys2Proof.Machine.execDecAbsAcc dst s
  | .decAbsImm dst imm => Sys2Proof.Machine.execDecAbsImm dst imm s
  | .decAbsAbs dst src => Sys2Proof.Machine.execDecAbsAbs dst src s
  | .notIndInd => Sys2Proof.Machine.execNotIndInd s
  | .notIndAcc => Sys2Proof.Machine.execNotIndAcc s
  | .notIndImm imm => Sys2Proof.Machine.execNotIndImm imm s
  | .notIndAbs src => Sys2Proof.Machine.execNotIndAbs src s
  | .notAccInd => Sys2Proof.Machine.execNotAccInd s
  | .notAccAcc => Sys2Proof.Machine.execNotAccAcc s
  | .notAccImm imm => Sys2Proof.Machine.execNotAccImm imm s
  | .notAccAbs src => Sys2Proof.Machine.execNotAccAbs src s
  | .notMarInd => Sys2Proof.Machine.execNotMarInd s
  | .notMarAcc => Sys2Proof.Machine.execNotMarAcc s
  | .notMarImm imm => Sys2Proof.Machine.execNotMarImm imm s
  | .notMarAbs src => Sys2Proof.Machine.execNotMarAbs src s
  | .notAbsInd dst => Sys2Proof.Machine.execNotAbsInd dst s
  | .notAbsAcc dst => Sys2Proof.Machine.execNotAbsAcc dst s
  | .notAbsImm dst imm => Sys2Proof.Machine.execNotAbsImm dst imm s
  | .notAbsAbs dst src => Sys2Proof.Machine.execNotAbsAbs dst src s
  -- MEM
  | .storeAccAbs addr => Sys2Proof.Machine.execStoreAccAbs addr s
  | .storeAccImm imm => Sys2Proof.Machine.execStoreAccImm imm s
  | .storeAccInd => Sys2Proof.Machine.execStoreAccInd s
  | .storeAccMethod3 => Sys2Proof.Machine.execStoreAccMethod3 s
  | .storeMarAbs addr => Sys2Proof.Machine.execStoreMarAbs addr s
  | .storeMarImm imm => Sys2Proof.Machine.execStoreMarImm imm s
  | .storeMarInd => Sys2Proof.Machine.execStoreMarInd s
  | .storeMarMethod3 => Sys2Proof.Machine.execStoreMarMethod3 s
  | .loadAccAbs addr => Sys2Proof.Machine.execLoadAccAbs addr s
  | .loadAccImm imm => Sys2Proof.Machine.execLoadAccImm imm s
  | .loadAccInd => Sys2Proof.Machine.execLoadAccInd s
  | .loadAccMethod3 => Sys2Proof.Machine.execLoadAccMethod3 s
  | .loadMarAbs addr => Sys2Proof.Machine.execLoadMarAbs addr s
  | .loadMarImm imm => Sys2Proof.Machine.execLoadMarImm imm s
  | .loadMarInd => Sys2Proof.Machine.execLoadMarInd s
  | .loadMarMethod3 => Sys2Proof.Machine.execLoadMarMethod3 s
  -- BR
  | .bra b target => Sys2Proof.Machine.execBra b target s
  | .brz b target => Sys2Proof.Machine.execBrz b target s
  | .bnz b target => Sys2Proof.Machine.execBnz b target s
  | .blt b target => Sys2Proof.Machine.execBlt b target s
  | .ble b target => Sys2Proof.Machine.execBle b target s
  | .bgt b target => Sys2Proof.Machine.execBgt b target s
  | .bge b target => Sys2Proof.Machine.execBge b target s
  | .br7 b target => Sys2Proof.Machine.execBr7 b target s

end Sys2Proof.Machine
end

