-- ==== Sys2Proof/Machine/Fetch.lean ====
section
/-! DEFINITION. The Operand Fetch Unit's read side (R73 to R77, R83): the bounds tests and the bytes of the instruction at PC. What a
successful fetch writes is `State.fetched` in Ops.lean. -/

namespace Sys2Proof.Machine

/-- What the fetch at PC finds. -/
inductive FetchOutcome where
  /-- The instruction whose bytes stand at PC. -/
  | instr (i : Instr)
  /-- The classifier's last arm; no opcode gives it (R48, R129; log 24). -/
  | unclassified (code : Byte)
  /-- OutOfBounds with this ERR_INFO (R140). -/
  | outOfBounds (info : ErrInfo)
deriving DecidableEq, Repr

/-- The `n` bytes of memory from address `a` on. -/
def bytesFrom (m : Memory) (a : Nat) : Nat → List Byte
  | 0 => []
  | n + 1 => Memory.lookup m a :: bytesFrom m (a + 1) n

/-- The read side of `fetch()` (R73): the PCX test (R74), the opcode (R75), the test that the trailing bytes lie inside memory (R77), and
then exactly the `1 + n` bytes of the instruction (R83). The tests come before any register write: D4 (log 9). -/
def fetchInstr (s : State) : FetchOutcome :=
  if s.pcx then .outOfBounds 0x10000#17
  else
    if s.pc.toNat + trailingCount (s.byteAt s.pc) > 0xFFFF then .outOfBounds (s.pc.setWidth 17)
    else
      match decode (bytesFrom s.mem s.pc.toNat (1 + trailingCount (s.byteAt s.pc))) with
      | .ok (i, _) => .instr i
      | .error _ => .unclassified (s.byteAt s.pc)

/-- The state with bytes placed where the next fetch reads, and PCX = 0, ERR = None, ERR_INFO = 0 as a driver ensures before the first step
(R155). Bytes past 0xFFFF are not placed. -/
def placeAtPc (s : State) (bytes : List Byte) : State :=
  { s with mem := Memory.placeBytes s.mem s.pc.toNat bytes, pcx := false, err := .none, errInfo := 0#17 }

end Sys2Proof.Machine
end

