-- ==== Sys2Proof/Machine/Step.lean ====
section
/-! DEFINITION. One step of the core: one fetch followed by one execute (R131). -/

namespace Sys2Proof.Machine

/-- One step (R131). With ERR not None the core takes no step (R133). A failed fetch raises OutOfBounds and nothing executes (R140, R145).
Otherwise the fetched instruction runs: `exec` performs the register writes of its fetch and its execute phase. The
unclassified arm, which no opcode reaches, is a fetch with no trailing bytes and no execute effect (R129, log 24). -/
def step (s : State) : Host.Outcome State Fault Refusal :=
  match s.err with
  | .none =>
    match fetchInstr s with
    | .instr i => exec i s
    | .unclassified code => .next (s.fetched code [])
    | .outOfBounds info => .next (s.raise .outOfBounds info)
  | .outOfBounds => .fault .coreStopped
  | .unresolvedAddress => .fault .coreStopped

/-- `s` with a word of the opcode table placed where `step` fetches next (log 25). -/
def State.withFetchWord (s : State) (nbits w : Nat) : State := placeAtPc s (tableBytes nbits w)

end Sys2Proof.Machine
end

