-- ==== Sys2Proof/Machine/Accesses.lean ====
section
/-! DEFINITION. The byte accesses of a step in their order (R36, R41, R163): fetch in ascending address order, then the destination read,
the source read and the write; a word access touches `a`, then `a + 1`. Nothing in `step` depends on this list. -/

namespace Sys2Proof.Machine

/-- One byte access of the core. -/
inductive Access where
  /-- A read by fetch. -/
  | fetch (a : Word)
  /-- A read by execute. -/
  | read (a : Word)
  /-- A write by execute. -/
  | write (a : Word)
deriving DecidableEq, Repr

/-- The cells of an access of width `w` at `a` (R33). -/
def cellsAt (w : Width) (a : Word) : List Word :=
  match w with
  | .w8 => [a]
  | .w16 => [a, a + 1#16]

/-- The cells of an ALU destination, in the state its fetch left (R86, R88). -/
def destCells (d : Dest) (w : Width) (s : State) : List Word :=
  match d with
  | .ind => cellsAt w s.mar
  | .acc => []
  | .mar => []
  | .abs => cellsAt w s.latch

/-- The cells of an ALU source, in the state its fetch left (R87). -/
def srcCells (c : Src) (w : Width) (s : State) : List Word :=
  match c with
  | .ind => cellsAt w s.mar
  | .acc => []
  | .imm => []
  | .abs => cellsAt w s.latch

/-- ACC moves 1 byte and MAR 2 (R103). -/
def memRegWidth (r : MemReg) : Width :=
  match r with
  | .acc => .w8
  | .mar => .w16

/-- The cells of a memory transfer, in the state its fetch left (R36). -/
def transferCells (r : MemReg) (m : Method) (s : State) : List Word :=
  match m with
  | .abs => cellsAt (memRegWidth r) s.latch
  | .imm => []
  | .ind => cellsAt (memRegWidth r) s.mar
  | .undef => []

/-- The cells execute reads, in order (R36, R41). `s` is the state the fetch left. -/
def readCells (o : Op) (s : State) : List Word :=
  match o with
  | .alu _ d c => destCells d (aluWidth d c) s ++ srcCells c (aluWidth d c) s
  | .mem .load r m => transferCells r m s
  | .mem .store _ _ => []
  | .br _ => []

/-- The cells execute writes, in order (R36, R41). `s` is the state the fetch left. -/
def writeCells (o : Op) (s : State) : List Word :=
  match o with
  | .alu _ d c => destCells d (aluWidth d c) s
  | .mem .load _ _ => []
  | .mem .store r m => transferCells r m s
  | .br _ => []

/-- The addresses of `n` bytes from PC on. -/
def fetchCells (p : Word) : Nat → List Word
  | 0 => []
  | n + 1 => p :: fetchCells (p + 1#16) n

/-- The accesses of instruction `i` at the state `s` before its fetch (R41). -/
def instrAccesses (i : Instr) (s : State) : List Access :=
  (fetchCells s.pc i.length).map .fetch ++ (readCells i.op (fetchOf i s)).map .read ++
    (writeCells i.op (fetchOf i s)).map .write

/-- The accesses of one step. A fetch that fails on PCX reads nothing (R74); one that fails on its trailing bytes has read the opcode
(R73, R77). -/
def stepAccesses (s : State) : List Access :=
  match s.err with
  | .none =>
    match fetchInstr s with
    | .instr i => instrAccesses i s
    | .unclassified _ => [.fetch s.pc]
    | .outOfBounds _ => if s.pcx then [] else [.fetch s.pc]
  | .outOfBounds => []
  | .unresolvedAddress => []

end Sys2Proof.Machine
end

