-- ==== Sys2Proof/Machine/Driver.lean ====
section
/-! DEFINITION. The driver's interface to the core (R134 to R138): what it may do between steps, its halt test and its run loop. How the
image comes to exist and what the driver reports are out of scope (R4). -/

namespace Sys2Proof.Machine

/-- Between steps the driver may write memory (R135). -/
def State.driverWrite (s : State) (a : Word) (v : Byte) : State := { s with mem := Memory.writeByte s.mem a v }

/-- The driver sets PC, at launch or between later steps (R135). At launch PCX = 0 is R155's. That a later setting also clears PCX is not in
the spec: R26 names no driver write of PCX. DESIGN CHOICE, unsafe (log 32). -/
def State.driverSetPc (s : State) (p : Word) : State := { s with pc := p, pcx := false }

/-- The halt test: the driver peeks `M[PC]` when PCX = 0; with PCX = 1 nothing matches (R136). -/
def haltTest (halt : Byte) (s : State) : Bool := !s.pcx && s.byteAt s.pc == halt

/-- How a run ends (R137), with the state it ends in. `outOfFuel` is a run that has not ended within the fuel (R138). -/
inductive RunEnd where
  | normal (s : State)
  | error (s : State)
  | outOfFuel (s : State)
deriving DecidableEq, Repr

/-- The run loop (R136) under fuel (R138). The driver writes nothing between the steps of a run: DESIGN CHOICE (the spec's, D16; log 22).
A step that answers no next state starts in a state with ERR not None (R133), which is an error end. -/
def driverRun (halt : Byte) : Nat → State → RunEnd
  | 0, s => .outOfFuel s
  | fuel + 1, s =>
    if haltTest halt s then .normal s
    else
      match step s with
      | .next t => if t.err = .none then driverRun halt fuel t else .error t
      | .fault _ => .error s
      | .refused _ => .error s

/-- The run loop with this driver's halt value. -/
def run (fuel : Nat) (s : State) : RunEnd := driverRun Config.haltOpcode fuel s

end Sys2Proof.Machine
end

