-- ==== Sys2Proof/Machine/Pseudocode.lean ====
section
/-! DEFINITION. The spec's own pseudocode of `fetch()` (R73), `execute()` (R128) and `step()` (R131), which works on IR and the latch and
knows no `Instr`. A second writing of the machine, against which `step` is compared; `step` does not use it. It shares with the
machine the classifier and the fields of the opcode byte, the operand rules R86 to R88, `compute` and the branch conditions. -/

namespace Sys2Proof.Machine

/-- "for each group g of code": read the groups from memory at `a` on, in order, into the latch (R73, R78 to R80). -/
def pseudoLatch (s : State) (a : Nat) : List Nat → State
  | [] => s
  | 2 :: sizes =>
    pseudoLatch { s with msb := Memory.lookup s.mem a, lsb := Memory.lookup s.mem (a + 1) } (a + 2) sizes
  | _ :: sizes => pseudoLatch { s with msb := Memory.lookup s.mem a } (a + 1) sizes

/-- `fetch()` (R73). `error` is the state of a fetch that raised OutOfBounds, `ok` the state a successful fetch leaves. -/
def pseudoFetch (s : State) : Except State State :=
  if s.pcx = true then .error (s.raise .outOfBounds 0x10000#17)
  else
    let p := s.pc.toNat
    let code := Memory.lookup s.mem p
    let n := trailingCount code
    if p + n > 0xFFFF then .error (s.raise .outOfBounds (BitVec.ofNat 17 p))
    else
      let latched := pseudoLatch { s with ir := code } (p + 1) (groupSizesWith Config.memRegPolarity code)
      .ok { latched with pc := BitVec.ofNat 16 (p + 1 + n), pcx := decide (p + 1 + n = 0x10000) }

/-- `load(IR[2], IR[1:0])` (R104 to R109, R115). -/
def pseudoLoad (r : MemReg) (m : Method) (s : State) : State :=
  match r, m with
  | .acc, .abs => { s with acc := Memory.readByte s.mem s.latch }
  | .acc, .imm => { s with acc := s.msb }
  | .acc, .ind => { s with acc := Memory.readByte s.mem s.mar }
  | .mar, .abs => { s with mar := Memory.readWord s.mem s.latch }
  | .mar, .imm => { s with mar := s.latch }
  | .mar, .ind => { s with mar := Memory.readWord s.mem s.mar }
  | _, .undef => s.raise .unresolvedAddress (s.ir.setWidth 17)

/-- `store(IR[2], IR[1:0])` (R110 to R115). -/
def pseudoStore (r : MemReg) (m : Method) (s : State) : State :=
  match r, m with
  | .acc, .abs => { s with mem := Memory.writeByte s.mem s.latch s.acc }
  | .acc, .ind => { s with mem := Memory.writeByte s.mem s.mar s.acc }
  | .mar, .abs => { s with mem := Memory.writeWord s.mem s.latch s.mar }
  | .mar, .ind => { s with mem := Memory.writeWord s.mem s.mar s.mar }
  | _, .imm => s.raise .unresolvedAddress (s.ir.setWidth 17)
  | _, .undef => s.raise .unresolvedAddress (s.ir.setWidth 17)

/-- `execute_alu()` (R84). -/
def pseudoAlu (s : State) : State :=
  let d := destOf s.ir
  let c := srcOf s.ir
  let w := aluWidth d c
  let op1 := readDest d w s
  let op2 := readSrc c w s
  saveResult d w (compute (funcOf s.ir) op1 op2) s

/-- `execute_br()` (R117). -/
def pseudoBranch (s : State) : State :=
  if branchCond (typeOf s.ir) s.acc then { s with pc := s.latch, pcx := false } else s

/-- `execute()` (R128). -/
def pseudoExecute (s : State) : State :=
  match family s.ir with
  | .alu => pseudoAlu s
  | .mem =>
    match directionOf s.ir with
    | .load => pseudoLoad (memRegOf Config.memRegPolarity s.ir) (methodOf s.ir) s
    | .store => pseudoStore (memRegOf Config.memRegPolarity s.ir) (methodOf s.ir) s
  | .br => pseudoBranch s
  | .unclassified => s

/-- `step()` (R131), after the test that ERR is None (R133). -/
def pseudoStep (s : State) : Result :=
  if s.err = .none then
    match pseudoFetch s with
    | .error t => .next t
    | .ok t => .next (pseudoExecute t)
  else .fault .coreStopped

end Sys2Proof.Machine
end

