-- ==== Sys2Proof/Safety.lean ====
section
/-! DEFINITION. The terms in which claims about runs are stated: the invariant, the states a launch reaches, and what two states share. -/

namespace Sys2Proof

/-- The instruction is a branch, the only control-transfer instruction (R127). -/
def Instr.isBranch (i : Instr) : Prop := ∃ t, i.op = .br t

/-- The instruction's destination is ACC (R16, R26): an ALU form with destination ACC, or LOAD ACC by a defined method. -/
def Instr.writesAcc (i : Instr) : Prop :=
  (∃ f c, i.op = .alu f .acc c) ∨ (∃ m, m ≠ .undef ∧ i.op = .mem .load .acc m)

/-- The instruction's destination is MAR (R17, R26). -/
def Instr.writesMar (i : Instr) : Prop :=
  (∃ f c, i.op = .alu f .mar c) ∨ (∃ m, m ≠ .undef ∧ i.op = .mem .load .mar m)

/-- The instruction is one of the six error forms: STORE immediate, or method 3 (R141). -/
def Instr.isErrorForm (i : Instr) : Prop :=
  (∃ r, i.op = .mem .store r .imm) ∨ (∃ d r, i.op = .mem d r .undef)

namespace Machine

/-- The opcodes that raise UnresolvedAddress (R141). -/
def unresolvedOpcodes : List Byte := [0x01#8, 0x03#8, 0x05#8, 0x07#8, 0x0B#8, 0x0F#8]

/-- What every reachable state satisfies. -/
structure State.Inv (s : State) : Prop where
  /-- Memory is canonical, inside the 65,536 cells (R15). -/
  memCanonical : Memory.wf s.mem = true
  /-- PCX is 1 only when PC has wrapped to 0x0000 (R20, R81). -/
  carryAtZero : s.pcx = true → s.pc = 0x0000#16
  /-- With no error nothing is recorded (R22). -/
  noErrorNoInfo : s.err = .none → s.errInfo = 0#17
  /-- OutOfBounds records 0x10000 for a fetch with PCX = 1, and otherwise the address of an opcode whose bytes pass 0xFFFF; PC still holds that
  address (R140, R145). -/
  outOfBoundsInfo : s.err = .outOfBounds →
    (s.pcx = true ∧ s.errInfo = 0x10000#17) ∨
      (s.pcx = false ∧ s.errInfo = s.pc.setWidth 17 ∧ s.pc.toNat + trailingCount (s.byteAt s.pc) > 0xFFFF)
  /-- UnresolvedAddress records IR, and IR is one of the six opcodes (R141, R146). -/
  unresolvedInfo : s.err = .unresolvedAddress → s.errInfo = s.ir.setWidth 17 ∧ s.ir ∈ unresolvedOpcodes

/-- The states a run reaches from `s` (R131). -/
inductive Reaches (s : State) : State → Prop where
  | start : Reaches s s
  | step {t u : State} (h : Reaches s t) (e : Machine.step t = .next u) : Reaches s u

/-- A safe state has raised no error (R139). -/
def State.Safe (s : State) : Prop := s.err = .none

/-- A safe run never raises an error. -/
def SafeFrom (s : State) : Prop := ∀ t, Reaches s t → t.Safe

/-- Two states that agree on everything but IR, MSB and LSB, the elements whose launch values no run observes (R154). -/
def SameButLatch (s t : State) : Prop :=
  s.mem = t.mem ∧ s.acc = t.acc ∧ s.mar = t.mar ∧ s.pc = t.pc ∧ s.pcx = t.pcx ∧ s.err = t.err ∧ s.errInfo = t.errInfo

/-- Two states that agree on everything but memory. -/
def SameRegisters (s t : State) : Prop :=
  s.acc = t.acc ∧ s.mar = t.mar ∧ s.ir = t.ir ∧ s.pc = t.pc ∧ s.pcx = t.pcx ∧ s.msb = t.msb ∧ s.lsb = t.lsb ∧
    s.err = t.err ∧ s.errInfo = t.errInfo

/-- The state right after the fetch of an instruction of `len` bytes at PC: IR, PC, PCX and the latch as R73 leaves them, everything else
as before. Written out for the statements, apart from the machine's own `State.fetched`. -/
def State.afterFetch (s : State) (code : Byte) (len : Nat) (msb lsb : Byte) : State :=
  { s with
    ir := code
    pc := s.pc + BitVec.ofNat 16 len
    pcx := decide (s.pc.toNat + len = 0x10000)
    msb := msb
    lsb := lsb }

end Machine

end Sys2Proof
end

