-- ==== Sys2Proof/Certificates/Slice0/Obligations.lean ====
section
/-! DEFINITION. The statements about the model, for the provers. Each docstring names the rules of spec/ it comes from, and the decisions
of spec/92_eei_decisions.md (D<n>) it rests on. -/

open Sys2Proof Sys2Proof.Machine

/-- Decode and encode agree (R46 to R60, R32): no operand bit of any of the 152 forms is dropped, under both values of the parameter I1
(its default is the choice of C1, log 19). -/
def Obligations.DecodeOfEncodeIsIdentity : Prop :=
  ∀ (pol : Config.MemRegPolarity) (i : Instr) (rest : List Byte), i.wellFormed = true →
    decodeWith pol (encodeWith pol i ++ rest) = .ok (i, rest)

/-- Every opcode byte, the 14 encodings of each branch type included (R66), belongs to exactly one instruction. -/
def Obligations.EncodeOfDecodeIsIdentity : Prop :=
  ∀ (pol : Config.MemRegPolarity) (bytes : List Byte) (i : Instr) (rest : List Byte),
    decodeWith pol bytes = .ok (i, rest) → i.wellFormed = true ∧ bytes = encodeWith pol i ++ rest

/-- R48 (no opcode is unclassified), with the counts of R60 and R76. -/
def Obligations.DecodeFailsOnlyWhenBytesRunOut : Prop :=
  ∀ bytes : List Byte,
    (∃ d, decode bytes = .ok d) ↔ ∃ code rest, bytes = code :: rest ∧ trailingCount code ≤ rest.length

/-- R48: the predicates of R47 split the 256 opcodes into three ranges. -/
def Obligations.FamiliesSplitTheOpcodes : Prop :=
  ∀ code : Byte,
    (family code = .alu ↔ 0x80#8 ≤ code) ∧ (family code = .mem ↔ code ≤ 0x0F#8) ∧
      (family code = .br ↔ 0x10#8 ≤ code ∧ code ≤ 0x7F#8) ∧ family code ≠ .unclassified

/-- A sanity statement over words of 95_test_vectors.md (W3, A35, W7, M2, W5, B1, B3). The register polarity is C1 (log 19). -/
def Obligations.SpecWordsDecode : Prop :=
  decode [0b1_011_01_11#8, 0x10#8, 0x01#8] = .ok (.addAccAbs 0x1001#16, []) ∧
    decode [0b1_011_11_10#8, 0x30#8, 0x00#8, 0x40#8, 0x02#8] = .ok (.addAbsImm 0x3000#16 0x4002#16, []) ∧
    decode [0b0000_1_1_01#8, 0x12#8, 0x34#8] = .ok (.loadMarImm 0x1234#16, []) ∧
    decode [0b0000_0_0_01#8, 0x77#8] = .ok (.storeAccImm 0x77#8, []) ∧
    decode [0b0_0010_001#8, 0x00#8, 0x50#8] = .ok (.brz 0b0010#4 0x0050#16, []) ∧
    decode [0b0_1111_001#8, 0x12#8, 0x34#8] = .ok (.brz 0b1111#4 0x1234#16, []) ∧
    decode [0b0_0011_001#8, 0x00#8, 0x00#8] = .ok (.brz 0b0011#4 0x0000#16, [])

/-- R66: every BR type has 14 encodings and all behave the same; IR holds the opcode that was fetched (R75). -/
def Obligations.BranchAliasesDifferOnlyInIr : Prop :=
  ∀ (i j : Instr) (s t u : State), i.isBranch → i.op = j.op → i.groups = j.groups →
    exec i s = .next t → exec j s = .next u → u = { t with ir := u.ir }

/-- R131 with R73: fetch finds the instruction at PC and it runs. The move past its words, IR and the latch are in `exec` (log 20). -/
def Obligations.StepRunsDecodedInstruction : Prop :=
  ∀ (i : Instr) (s : State), s.err = .none → s.pcx = false → i.wellFormed = true →
    s.pc.toNat + i.length ≤ 0x10000 → bytesFrom s.mem s.pc.toNat i.length = encode i →
    step s = exec i s

/-- The model refines the pseudocode of R73, R84, R103 to R115, R117, R128 and R131. It rests on the decisions those rules carry (D3 to D13). -/
def Obligations.StepEqualsSpecPseudocode : Prop :=
  ∀ s : State, step s = pseudoStep s

/-- R133, which rests on D12: ERR is sticky (log 17). -/
def Obligations.ErrorStopsTheCore : Prop :=
  ∀ s : State, step s = .fault .coreStopped ↔ s.err ≠ .none

/-- R131 and R139: a step ends in a next state, possibly one with ERR set; no instruction is refused (R48). -/
def Obligations.EveryStepWithoutErrorAnswersNext : Prop :=
  ∀ s : State, s.err = .none → ∃ t, step s = .next t

/-- R74. PCX is D3 (log 8), the recorded value D13 (log 18). -/
def Obligations.FetchWithCarryRaisesOutOfBounds : Prop :=
  ∀ s : State, s.err = .none → s.pcx = true →
    step s = .next { s with err := .outOfBounds, errInfo := 0x10000#17 }

/-- R77. That the test comes before any register write is D4 (log 9), PCX D3 (log 8), the recorded value, the opcode address, D13 (log 18). -/
def Obligations.FetchPastTopRaisesOutOfBounds : Prop :=
  ∀ s : State, s.err = .none → s.pcx = false → s.pc.toNat + trailingCount (s.byteAt s.pc) > 0xFFFF →
    step s = .next { s with err := .outOfBounds, errInfo := s.pc.setWidth 17 }

/-- R75: a successful fetch writes the opcode to IR, and execute leaves it there. -/
def Obligations.SuccessfulFetchLeavesOpcodeInIr : Prop :=
  ∀ s t : State, s.err = .none → step s = .next t → t.err ≠ .outOfBounds → t.ir = s.byteAt s.pc

/-- R80. Execute writes neither latch byte (R128). -/
def Obligations.BranchFetchLatchesTarget : Prop :=
  ∀ s t : State, s.err = .none → family (s.byteAt s.pc) = .br → step s = .next t → t.err ≠ .outOfBounds →
    t.msb = s.byteAt (s.pc + 1#16) ∧ t.lsb = s.byteAt (s.pc + 2#16)

/-- R78 to R80 and R82. That the second group of a 5-byte form overwrites the first is D6 (log 11). -/
def Obligations.FetchLatchesTrailingBytes : Prop :=
  ∀ s t : State, s.err = .none → step s = .next t → t.err ≠ .outOfBounds →
    (trailingCount (s.byteAt s.pc) = 0 ∧ t.msb = s.msb ∧ t.lsb = s.lsb) ∨
    (trailingCount (s.byteAt s.pc) = 1 ∧ t.msb = s.byteAt (s.pc + 1#16) ∧ t.lsb = s.lsb) ∨
    (trailingCount (s.byteAt s.pc) = 2 ∧ t.msb = s.byteAt (s.pc + 1#16) ∧ t.lsb = s.byteAt (s.pc + 2#16)) ∨
    (trailingCount (s.byteAt s.pc) = 4 ∧ t.msb = s.byteAt (s.pc + 3#16) ∧ t.lsb = s.byteAt (s.pc + 4#16))

/-- R81, R117, and R127: the branch is the only control transfer. PCX is D3 (log 8), type 7 D9 (log 14). -/
def Obligations.PcFallsThroughOrTakesTheBranch : Prop :=
  ∀ s t : State, s.err = .none → step s = .next t → t.err ≠ .outOfBounds →
    if family (s.byteAt s.pc) = .br ∧ branchCond (typeOf (s.byteAt s.pc)) s.acc = true then
      t.pc = joinBytes (s.byteAt (s.pc + 1#16)) (s.byteAt (s.pc + 2#16)) ∧ t.pcx = false
    else
      t.pc = s.pc + BitVec.ofNat 16 (1 + trailingCount (s.byteAt s.pc)) ∧
        (t.pcx = true ↔ s.pc.toNat + 1 + trailingCount (s.byteAt s.pc) = 0x10000)

/-- R139 to R141 and the priority of R143. The six opcodes rest on D10 and D11 (log 15, 16) and the bounds on D3 and D4
(log 8, 9). -/
def Obligations.ErrorsHaveOnlyTheirCauses : Prop :=
  ∀ s t : State, s.err = .none → step s = .next t →
    (t.err = .outOfBounds ↔ s.pcx = true ∨ s.pc.toNat + trailingCount (s.byteAt s.pc) > 0xFFFF) ∧
    (t.err = .unresolvedAddress ↔
      ¬(s.pcx = true ∨ s.pc.toNat + trailingCount (s.byteAt s.pc) > 0xFFFF) ∧ s.byteAt s.pc ∈ unresolvedOpcodes)

/-- R145, which rests on D4 (log 9); PCX is D3 (log 8). -/
def Obligations.OutOfBoundsChangesNothingElse : Prop :=
  ∀ s t : State, s.err = .none → step s = .next t → t.err = .outOfBounds →
    t = { s with err := t.err, errInfo := t.errInfo }

/-- R146 and R141, which rest on D10, D11, D12 and D13 (log 15 to 18). -/
def Obligations.UnresolvedAddressKeepsAccMarMemory : Prop :=
  ∀ s t : State, s.err = .none → step s = .next t → t.err = .unresolvedAddress →
    t.acc = s.acc ∧ t.mar = s.mar ∧ (∀ a, t.byteAt a = s.byteAt a) ∧ t.ir = s.byteAt s.pc ∧
      t.pc = s.pc + BitVec.ofNat 16 (1 + trailingCount (s.byteAt s.pc)) ∧ t.errInfo = t.ir.setWidth 17

/-- R114 and R115: the whole effect of the six error opcodes. They rest on D10, D11 and D13 (log 15, 16, 18), their opcodes on the register
polarity of C1 (log 19), PCX on D3 (log 8). -/
def Obligations.ErrorFormsRaiseUnresolvedAddress : Prop :=
  ∀ (s : State) (imm8 : Byte) (imm : Word),
    exec (.storeAccImm imm8) s =
      .next { s.afterFetch 0x01#8 2 imm8 s.lsb with err := .unresolvedAddress, errInfo := 0x01#17 } ∧
    exec (.storeAccMethod3) s =
      .next { s.afterFetch 0x03#8 1 s.msb s.lsb with err := .unresolvedAddress, errInfo := 0x03#17 } ∧
    exec (.storeMarImm imm) s =
      .next { s.afterFetch 0x05#8 3 (hiByte imm) (loByte imm) with err := .unresolvedAddress, errInfo := 0x05#17 } ∧
    exec (.storeMarMethod3) s =
      .next { s.afterFetch 0x07#8 1 s.msb s.lsb with err := .unresolvedAddress, errInfo := 0x07#17 } ∧
    exec (.loadAccMethod3) s =
      .next { s.afterFetch 0x0B#8 1 s.msb s.lsb with err := .unresolvedAddress, errInfo := 0x0B#17 } ∧
    exec (.loadMarMethod3) s =
      .next { s.afterFetch 0x0F#8 1 s.msb s.lsb with err := .unresolvedAddress, errInfo := 0x0F#17 }

/-- R92 over the operand forms of R86 to R90 (AND: destination & source). A word at 0xFFFF wraps by D5, the forms with two groups follow D6, an 8-bit MAR
destination D8 (log 10, 11, 13), PCX D3 (log 8). -/
def Obligations.AndResultInEveryForm : Prop :=
  ∀ (s : State) (dst imm src : Word) (imm8 : Byte),
    exec (.andIndInd) s =
      .next { s.afterFetch 0x80#8 1 s.msb s.lsb with mem := Memory.writeWord s.mem s.mar (s.wordAt s.mar &&& s.wordAt s.mar) } ∧
    exec (.andIndAcc) s =
      .next { s.afterFetch 0x81#8 1 s.msb s.lsb with mem := Memory.writeByte s.mem s.mar (s.byteAt s.mar &&& s.acc) } ∧
    exec (.andIndImm imm) s =
      .next { s.afterFetch 0x82#8 3 (hiByte imm) (loByte imm) with mem := Memory.writeWord s.mem s.mar (s.wordAt s.mar &&& imm) } ∧
    exec (.andIndAbs src) s =
      .next { s.afterFetch 0x83#8 3 (hiByte src) (loByte src) with mem := Memory.writeWord s.mem s.mar (s.wordAt s.mar &&& s.wordAt src) } ∧
    exec (.andAccInd) s =
      .next { s.afterFetch 0x84#8 1 s.msb s.lsb with acc := s.acc &&& s.byteAt s.mar } ∧
    exec (.andAccAcc) s =
      .next { s.afterFetch 0x85#8 1 s.msb s.lsb with acc := s.acc &&& s.acc } ∧
    exec (.andAccImm imm8) s =
      .next { s.afterFetch 0x86#8 2 imm8 s.lsb with acc := s.acc &&& imm8 } ∧
    exec (.andAccAbs src) s =
      .next { s.afterFetch 0x87#8 3 (hiByte src) (loByte src) with acc := s.acc &&& s.byteAt src } ∧
    exec (.andMarInd) s =
      .next { s.afterFetch 0x88#8 1 s.msb s.lsb with mar := s.mar &&& s.wordAt s.mar } ∧
    exec (.andMarAcc) s =
      .next { s.afterFetch 0x89#8 1 s.msb s.lsb with mar := joinBytes 0x00#8 (loByte s.mar &&& s.acc) } ∧
    exec (.andMarImm imm) s =
      .next { s.afterFetch 0x8A#8 3 (hiByte imm) (loByte imm) with mar := s.mar &&& imm } ∧
    exec (.andMarAbs src) s =
      .next { s.afterFetch 0x8B#8 3 (hiByte src) (loByte src) with mar := s.mar &&& s.wordAt src } ∧
    exec (.andAbsInd dst) s =
      .next { s.afterFetch 0x8C#8 3 (hiByte dst) (loByte dst) with mem := Memory.writeWord s.mem dst (s.wordAt dst &&& s.wordAt s.mar) } ∧
    exec (.andAbsAcc dst) s =
      .next { s.afterFetch 0x8D#8 3 (hiByte dst) (loByte dst) with mem := Memory.writeByte s.mem dst (s.byteAt dst &&& s.acc) } ∧
    exec (.andAbsImm dst imm) s =
      .next { s.afterFetch 0x8E#8 5 (hiByte imm) (loByte imm) with mem := Memory.writeWord s.mem imm (s.wordAt imm &&& imm) } ∧
    exec (.andAbsAbs dst src) s =
      .next { s.afterFetch 0x8F#8 5 (hiByte src) (loByte src) with mem := Memory.writeWord s.mem src (s.wordAt src &&& s.wordAt src) }

/-- R93 over the operand forms of R86 to R90 (OR: destination | source). A word at 0xFFFF wraps by D5, the forms with two groups follow D6, an 8-bit MAR
destination D8 (log 10, 11, 13), PCX D3 (log 8). -/
def Obligations.OrResultInEveryForm : Prop :=
  ∀ (s : State) (dst imm src : Word) (imm8 : Byte),
    exec (.orIndInd) s =
      .next { s.afterFetch 0x90#8 1 s.msb s.lsb with mem := Memory.writeWord s.mem s.mar (s.wordAt s.mar ||| s.wordAt s.mar) } ∧
    exec (.orIndAcc) s =
      .next { s.afterFetch 0x91#8 1 s.msb s.lsb with mem := Memory.writeByte s.mem s.mar (s.byteAt s.mar ||| s.acc) } ∧
    exec (.orIndImm imm) s =
      .next { s.afterFetch 0x92#8 3 (hiByte imm) (loByte imm) with mem := Memory.writeWord s.mem s.mar (s.wordAt s.mar ||| imm) } ∧
    exec (.orIndAbs src) s =
      .next { s.afterFetch 0x93#8 3 (hiByte src) (loByte src) with mem := Memory.writeWord s.mem s.mar (s.wordAt s.mar ||| s.wordAt src) } ∧
    exec (.orAccInd) s =
      .next { s.afterFetch 0x94#8 1 s.msb s.lsb with acc := s.acc ||| s.byteAt s.mar } ∧
    exec (.orAccAcc) s =
      .next { s.afterFetch 0x95#8 1 s.msb s.lsb with acc := s.acc ||| s.acc } ∧
    exec (.orAccImm imm8) s =
      .next { s.afterFetch 0x96#8 2 imm8 s.lsb with acc := s.acc ||| imm8 } ∧
    exec (.orAccAbs src) s =
      .next { s.afterFetch 0x97#8 3 (hiByte src) (loByte src) with acc := s.acc ||| s.byteAt src } ∧
    exec (.orMarInd) s =
      .next { s.afterFetch 0x98#8 1 s.msb s.lsb with mar := s.mar ||| s.wordAt s.mar } ∧
    exec (.orMarAcc) s =
      .next { s.afterFetch 0x99#8 1 s.msb s.lsb with mar := joinBytes 0x00#8 (loByte s.mar ||| s.acc) } ∧
    exec (.orMarImm imm) s =
      .next { s.afterFetch 0x9A#8 3 (hiByte imm) (loByte imm) with mar := s.mar ||| imm } ∧
    exec (.orMarAbs src) s =
      .next { s.afterFetch 0x9B#8 3 (hiByte src) (loByte src) with mar := s.mar ||| s.wordAt src } ∧
    exec (.orAbsInd dst) s =
      .next { s.afterFetch 0x9C#8 3 (hiByte dst) (loByte dst) with mem := Memory.writeWord s.mem dst (s.wordAt dst ||| s.wordAt s.mar) } ∧
    exec (.orAbsAcc dst) s =
      .next { s.afterFetch 0x9D#8 3 (hiByte dst) (loByte dst) with mem := Memory.writeByte s.mem dst (s.byteAt dst ||| s.acc) } ∧
    exec (.orAbsImm dst imm) s =
      .next { s.afterFetch 0x9E#8 5 (hiByte imm) (loByte imm) with mem := Memory.writeWord s.mem imm (s.wordAt imm ||| imm) } ∧
    exec (.orAbsAbs dst src) s =
      .next { s.afterFetch 0x9F#8 5 (hiByte src) (loByte src) with mem := Memory.writeWord s.mem src (s.wordAt src ||| s.wordAt src) }

/-- R94 over the operand forms of R86 to R90 (XOR: destination ^ source). A word at 0xFFFF wraps by D5, the forms with two groups follow D6, an 8-bit MAR
destination D8 (log 10, 11, 13), PCX D3 (log 8). -/
def Obligations.XorResultInEveryForm : Prop :=
  ∀ (s : State) (dst imm src : Word) (imm8 : Byte),
    exec (.xorIndInd) s =
      .next { s.afterFetch 0xA0#8 1 s.msb s.lsb with mem := Memory.writeWord s.mem s.mar (s.wordAt s.mar ^^^ s.wordAt s.mar) } ∧
    exec (.xorIndAcc) s =
      .next { s.afterFetch 0xA1#8 1 s.msb s.lsb with mem := Memory.writeByte s.mem s.mar (s.byteAt s.mar ^^^ s.acc) } ∧
    exec (.xorIndImm imm) s =
      .next { s.afterFetch 0xA2#8 3 (hiByte imm) (loByte imm) with mem := Memory.writeWord s.mem s.mar (s.wordAt s.mar ^^^ imm) } ∧
    exec (.xorIndAbs src) s =
      .next { s.afterFetch 0xA3#8 3 (hiByte src) (loByte src) with mem := Memory.writeWord s.mem s.mar (s.wordAt s.mar ^^^ s.wordAt src) } ∧
    exec (.xorAccInd) s =
      .next { s.afterFetch 0xA4#8 1 s.msb s.lsb with acc := s.acc ^^^ s.byteAt s.mar } ∧
    exec (.xorAccAcc) s =
      .next { s.afterFetch 0xA5#8 1 s.msb s.lsb with acc := s.acc ^^^ s.acc } ∧
    exec (.xorAccImm imm8) s =
      .next { s.afterFetch 0xA6#8 2 imm8 s.lsb with acc := s.acc ^^^ imm8 } ∧
    exec (.xorAccAbs src) s =
      .next { s.afterFetch 0xA7#8 3 (hiByte src) (loByte src) with acc := s.acc ^^^ s.byteAt src } ∧
    exec (.xorMarInd) s =
      .next { s.afterFetch 0xA8#8 1 s.msb s.lsb with mar := s.mar ^^^ s.wordAt s.mar } ∧
    exec (.xorMarAcc) s =
      .next { s.afterFetch 0xA9#8 1 s.msb s.lsb with mar := joinBytes 0x00#8 (loByte s.mar ^^^ s.acc) } ∧
    exec (.xorMarImm imm) s =
      .next { s.afterFetch 0xAA#8 3 (hiByte imm) (loByte imm) with mar := s.mar ^^^ imm } ∧
    exec (.xorMarAbs src) s =
      .next { s.afterFetch 0xAB#8 3 (hiByte src) (loByte src) with mar := s.mar ^^^ s.wordAt src } ∧
    exec (.xorAbsInd dst) s =
      .next { s.afterFetch 0xAC#8 3 (hiByte dst) (loByte dst) with mem := Memory.writeWord s.mem dst (s.wordAt dst ^^^ s.wordAt s.mar) } ∧
    exec (.xorAbsAcc dst) s =
      .next { s.afterFetch 0xAD#8 3 (hiByte dst) (loByte dst) with mem := Memory.writeByte s.mem dst (s.byteAt dst ^^^ s.acc) } ∧
    exec (.xorAbsImm dst imm) s =
      .next { s.afterFetch 0xAE#8 5 (hiByte imm) (loByte imm) with mem := Memory.writeWord s.mem imm (s.wordAt imm ^^^ imm) } ∧
    exec (.xorAbsAbs dst src) s =
      .next { s.afterFetch 0xAF#8 5 (hiByte src) (loByte src) with mem := Memory.writeWord s.mem src (s.wordAt src ^^^ s.wordAt src) }

/-- R95 over the operand forms of R86 to R90 (ADD: destination + source modulo 2^w). A word at 0xFFFF wraps by D5, the forms with two groups follow D6, an 8-bit MAR
destination D8 (log 10, 11, 13), PCX D3 (log 8). -/
def Obligations.AddResultInEveryForm : Prop :=
  ∀ (s : State) (dst imm src : Word) (imm8 : Byte),
    exec (.addIndInd) s =
      .next { s.afterFetch 0xB0#8 1 s.msb s.lsb with mem := Memory.writeWord s.mem s.mar (s.wordAt s.mar + s.wordAt s.mar) } ∧
    exec (.addIndAcc) s =
      .next { s.afterFetch 0xB1#8 1 s.msb s.lsb with mem := Memory.writeByte s.mem s.mar (s.byteAt s.mar + s.acc) } ∧
    exec (.addIndImm imm) s =
      .next { s.afterFetch 0xB2#8 3 (hiByte imm) (loByte imm) with mem := Memory.writeWord s.mem s.mar (s.wordAt s.mar + imm) } ∧
    exec (.addIndAbs src) s =
      .next { s.afterFetch 0xB3#8 3 (hiByte src) (loByte src) with mem := Memory.writeWord s.mem s.mar (s.wordAt s.mar + s.wordAt src) } ∧
    exec (.addAccInd) s =
      .next { s.afterFetch 0xB4#8 1 s.msb s.lsb with acc := s.acc + s.byteAt s.mar } ∧
    exec (.addAccAcc) s =
      .next { s.afterFetch 0xB5#8 1 s.msb s.lsb with acc := s.acc + s.acc } ∧
    exec (.addAccImm imm8) s =
      .next { s.afterFetch 0xB6#8 2 imm8 s.lsb with acc := s.acc + imm8 } ∧
    exec (.addAccAbs src) s =
      .next { s.afterFetch 0xB7#8 3 (hiByte src) (loByte src) with acc := s.acc + s.byteAt src } ∧
    exec (.addMarInd) s =
      .next { s.afterFetch 0xB8#8 1 s.msb s.lsb with mar := s.mar + s.wordAt s.mar } ∧
    exec (.addMarAcc) s =
      .next { s.afterFetch 0xB9#8 1 s.msb s.lsb with mar := joinBytes 0x00#8 (loByte s.mar + s.acc) } ∧
    exec (.addMarImm imm) s =
      .next { s.afterFetch 0xBA#8 3 (hiByte imm) (loByte imm) with mar := s.mar + imm } ∧
    exec (.addMarAbs src) s =
      .next { s.afterFetch 0xBB#8 3 (hiByte src) (loByte src) with mar := s.mar + s.wordAt src } ∧
    exec (.addAbsInd dst) s =
      .next { s.afterFetch 0xBC#8 3 (hiByte dst) (loByte dst) with mem := Memory.writeWord s.mem dst (s.wordAt dst + s.wordAt s.mar) } ∧
    exec (.addAbsAcc dst) s =
      .next { s.afterFetch 0xBD#8 3 (hiByte dst) (loByte dst) with mem := Memory.writeByte s.mem dst (s.byteAt dst + s.acc) } ∧
    exec (.addAbsImm dst imm) s =
      .next { s.afterFetch 0xBE#8 5 (hiByte imm) (loByte imm) with mem := Memory.writeWord s.mem imm (s.wordAt imm + imm) } ∧
    exec (.addAbsAbs dst src) s =
      .next { s.afterFetch 0xBF#8 5 (hiByte src) (loByte src) with mem := Memory.writeWord s.mem src (s.wordAt src + s.wordAt src) }

/-- R96 over the operand forms of R86 to R90 (SUB: destination - source modulo 2^w). A word at 0xFFFF wraps by D5, the forms with two groups follow D6, an 8-bit MAR destination D8
and the order of the operands D7 (log 10, 11, 13, 12), PCX D3 (log 8). -/
def Obligations.SubResultInEveryForm : Prop :=
  ∀ (s : State) (dst imm src : Word) (imm8 : Byte),
    exec (.subIndInd) s =
      .next { s.afterFetch 0xC0#8 1 s.msb s.lsb with mem := Memory.writeWord s.mem s.mar (s.wordAt s.mar - s.wordAt s.mar) } ∧
    exec (.subIndAcc) s =
      .next { s.afterFetch 0xC1#8 1 s.msb s.lsb with mem := Memory.writeByte s.mem s.mar (s.byteAt s.mar - s.acc) } ∧
    exec (.subIndImm imm) s =
      .next { s.afterFetch 0xC2#8 3 (hiByte imm) (loByte imm) with mem := Memory.writeWord s.mem s.mar (s.wordAt s.mar - imm) } ∧
    exec (.subIndAbs src) s =
      .next { s.afterFetch 0xC3#8 3 (hiByte src) (loByte src) with mem := Memory.writeWord s.mem s.mar (s.wordAt s.mar - s.wordAt src) } ∧
    exec (.subAccInd) s =
      .next { s.afterFetch 0xC4#8 1 s.msb s.lsb with acc := s.acc - s.byteAt s.mar } ∧
    exec (.subAccAcc) s =
      .next { s.afterFetch 0xC5#8 1 s.msb s.lsb with acc := s.acc - s.acc } ∧
    exec (.subAccImm imm8) s =
      .next { s.afterFetch 0xC6#8 2 imm8 s.lsb with acc := s.acc - imm8 } ∧
    exec (.subAccAbs src) s =
      .next { s.afterFetch 0xC7#8 3 (hiByte src) (loByte src) with acc := s.acc - s.byteAt src } ∧
    exec (.subMarInd) s =
      .next { s.afterFetch 0xC8#8 1 s.msb s.lsb with mar := s.mar - s.wordAt s.mar } ∧
    exec (.subMarAcc) s =
      .next { s.afterFetch 0xC9#8 1 s.msb s.lsb with mar := joinBytes 0x00#8 (loByte s.mar - s.acc) } ∧
    exec (.subMarImm imm) s =
      .next { s.afterFetch 0xCA#8 3 (hiByte imm) (loByte imm) with mar := s.mar - imm } ∧
    exec (.subMarAbs src) s =
      .next { s.afterFetch 0xCB#8 3 (hiByte src) (loByte src) with mar := s.mar - s.wordAt src } ∧
    exec (.subAbsInd dst) s =
      .next { s.afterFetch 0xCC#8 3 (hiByte dst) (loByte dst) with mem := Memory.writeWord s.mem dst (s.wordAt dst - s.wordAt s.mar) } ∧
    exec (.subAbsAcc dst) s =
      .next { s.afterFetch 0xCD#8 3 (hiByte dst) (loByte dst) with mem := Memory.writeByte s.mem dst (s.byteAt dst - s.acc) } ∧
    exec (.subAbsImm dst imm) s =
      .next { s.afterFetch 0xCE#8 5 (hiByte imm) (loByte imm) with mem := Memory.writeWord s.mem imm (s.wordAt imm - imm) } ∧
    exec (.subAbsAbs dst src) s =
      .next { s.afterFetch 0xCF#8 5 (hiByte src) (loByte src) with mem := Memory.writeWord s.mem src (s.wordAt src - s.wordAt src) }

/-- R97 over the operand forms of R86 to R90 (INC: destination + 1 modulo 2^w). A word at 0xFFFF wraps by D5, the forms with two groups follow D6, an 8-bit MAR
destination D8 (log 10, 11, 13), PCX D3 (log 8). -/
def Obligations.IncResultInEveryForm : Prop :=
  ∀ (s : State) (dst imm src : Word) (imm8 : Byte),
    exec (.incIndInd) s =
      .next { s.afterFetch 0xD0#8 1 s.msb s.lsb with mem := Memory.writeWord s.mem s.mar (s.wordAt s.mar + 1#16) } ∧
    exec (.incIndAcc) s =
      .next { s.afterFetch 0xD1#8 1 s.msb s.lsb with mem := Memory.writeByte s.mem s.mar (s.byteAt s.mar + 1#8) } ∧
    exec (.incIndImm imm) s =
      .next { s.afterFetch 0xD2#8 3 (hiByte imm) (loByte imm) with mem := Memory.writeWord s.mem s.mar (s.wordAt s.mar + 1#16) } ∧
    exec (.incIndAbs src) s =
      .next { s.afterFetch 0xD3#8 3 (hiByte src) (loByte src) with mem := Memory.writeWord s.mem s.mar (s.wordAt s.mar + 1#16) } ∧
    exec (.incAccInd) s =
      .next { s.afterFetch 0xD4#8 1 s.msb s.lsb with acc := s.acc + 1#8 } ∧
    exec (.incAccAcc) s =
      .next { s.afterFetch 0xD5#8 1 s.msb s.lsb with acc := s.acc + 1#8 } ∧
    exec (.incAccImm imm8) s =
      .next { s.afterFetch 0xD6#8 2 imm8 s.lsb with acc := s.acc + 1#8 } ∧
    exec (.incAccAbs src) s =
      .next { s.afterFetch 0xD7#8 3 (hiByte src) (loByte src) with acc := s.acc + 1#8 } ∧
    exec (.incMarInd) s =
      .next { s.afterFetch 0xD8#8 1 s.msb s.lsb with mar := s.mar + 1#16 } ∧
    exec (.incMarAcc) s =
      .next { s.afterFetch 0xD9#8 1 s.msb s.lsb with mar := joinBytes 0x00#8 (loByte s.mar + 1#8) } ∧
    exec (.incMarImm imm) s =
      .next { s.afterFetch 0xDA#8 3 (hiByte imm) (loByte imm) with mar := s.mar + 1#16 } ∧
    exec (.incMarAbs src) s =
      .next { s.afterFetch 0xDB#8 3 (hiByte src) (loByte src) with mar := s.mar + 1#16 } ∧
    exec (.incAbsInd dst) s =
      .next { s.afterFetch 0xDC#8 3 (hiByte dst) (loByte dst) with mem := Memory.writeWord s.mem dst (s.wordAt dst + 1#16) } ∧
    exec (.incAbsAcc dst) s =
      .next { s.afterFetch 0xDD#8 3 (hiByte dst) (loByte dst) with mem := Memory.writeByte s.mem dst (s.byteAt dst + 1#8) } ∧
    exec (.incAbsImm dst imm) s =
      .next { s.afterFetch 0xDE#8 5 (hiByte imm) (loByte imm) with mem := Memory.writeWord s.mem imm (s.wordAt imm + 1#16) } ∧
    exec (.incAbsAbs dst src) s =
      .next { s.afterFetch 0xDF#8 5 (hiByte src) (loByte src) with mem := Memory.writeWord s.mem src (s.wordAt src + 1#16) }

/-- R98 over the operand forms of R86 to R90 (DEC: destination - 1 modulo 2^w). A word at 0xFFFF wraps by D5, the forms with two groups follow D6, an 8-bit MAR
destination D8 (log 10, 11, 13), PCX D3 (log 8). -/
def Obligations.DecResultInEveryForm : Prop :=
  ∀ (s : State) (dst imm src : Word) (imm8 : Byte),
    exec (.decIndInd) s =
      .next { s.afterFetch 0xE0#8 1 s.msb s.lsb with mem := Memory.writeWord s.mem s.mar (s.wordAt s.mar - 1#16) } ∧
    exec (.decIndAcc) s =
      .next { s.afterFetch 0xE1#8 1 s.msb s.lsb with mem := Memory.writeByte s.mem s.mar (s.byteAt s.mar - 1#8) } ∧
    exec (.decIndImm imm) s =
      .next { s.afterFetch 0xE2#8 3 (hiByte imm) (loByte imm) with mem := Memory.writeWord s.mem s.mar (s.wordAt s.mar - 1#16) } ∧
    exec (.decIndAbs src) s =
      .next { s.afterFetch 0xE3#8 3 (hiByte src) (loByte src) with mem := Memory.writeWord s.mem s.mar (s.wordAt s.mar - 1#16) } ∧
    exec (.decAccInd) s =
      .next { s.afterFetch 0xE4#8 1 s.msb s.lsb with acc := s.acc - 1#8 } ∧
    exec (.decAccAcc) s =
      .next { s.afterFetch 0xE5#8 1 s.msb s.lsb with acc := s.acc - 1#8 } ∧
    exec (.decAccImm imm8) s =
      .next { s.afterFetch 0xE6#8 2 imm8 s.lsb with acc := s.acc - 1#8 } ∧
    exec (.decAccAbs src) s =
      .next { s.afterFetch 0xE7#8 3 (hiByte src) (loByte src) with acc := s.acc - 1#8 } ∧
    exec (.decMarInd) s =
      .next { s.afterFetch 0xE8#8 1 s.msb s.lsb with mar := s.mar - 1#16 } ∧
    exec (.decMarAcc) s =
      .next { s.afterFetch 0xE9#8 1 s.msb s.lsb with mar := joinBytes 0x00#8 (loByte s.mar - 1#8) } ∧
    exec (.decMarImm imm) s =
      .next { s.afterFetch 0xEA#8 3 (hiByte imm) (loByte imm) with mar := s.mar - 1#16 } ∧
    exec (.decMarAbs src) s =
      .next { s.afterFetch 0xEB#8 3 (hiByte src) (loByte src) with mar := s.mar - 1#16 } ∧
    exec (.decAbsInd dst) s =
      .next { s.afterFetch 0xEC#8 3 (hiByte dst) (loByte dst) with mem := Memory.writeWord s.mem dst (s.wordAt dst - 1#16) } ∧
    exec (.decAbsAcc dst) s =
      .next { s.afterFetch 0xED#8 3 (hiByte dst) (loByte dst) with mem := Memory.writeByte s.mem dst (s.byteAt dst - 1#8) } ∧
    exec (.decAbsImm dst imm) s =
      .next { s.afterFetch 0xEE#8 5 (hiByte imm) (loByte imm) with mem := Memory.writeWord s.mem imm (s.wordAt imm - 1#16) } ∧
    exec (.decAbsAbs dst src) s =
      .next { s.afterFetch 0xEF#8 5 (hiByte src) (loByte src) with mem := Memory.writeWord s.mem src (s.wordAt src - 1#16) }

/-- R99 over the operand forms of R86 to R90 (NOT: complement of the destination within w bits). A word at 0xFFFF wraps by D5, the forms with two groups follow D6, an 8-bit MAR
destination D8 (log 10, 11, 13), PCX D3 (log 8). -/
def Obligations.NotResultInEveryForm : Prop :=
  ∀ (s : State) (dst imm src : Word) (imm8 : Byte),
    exec (.notIndInd) s =
      .next { s.afterFetch 0xF0#8 1 s.msb s.lsb with mem := Memory.writeWord s.mem s.mar (~~~(s.wordAt s.mar)) } ∧
    exec (.notIndAcc) s =
      .next { s.afterFetch 0xF1#8 1 s.msb s.lsb with mem := Memory.writeByte s.mem s.mar (~~~(s.byteAt s.mar)) } ∧
    exec (.notIndImm imm) s =
      .next { s.afterFetch 0xF2#8 3 (hiByte imm) (loByte imm) with mem := Memory.writeWord s.mem s.mar (~~~(s.wordAt s.mar)) } ∧
    exec (.notIndAbs src) s =
      .next { s.afterFetch 0xF3#8 3 (hiByte src) (loByte src) with mem := Memory.writeWord s.mem s.mar (~~~(s.wordAt s.mar)) } ∧
    exec (.notAccInd) s =
      .next { s.afterFetch 0xF4#8 1 s.msb s.lsb with acc := ~~~s.acc } ∧
    exec (.notAccAcc) s =
      .next { s.afterFetch 0xF5#8 1 s.msb s.lsb with acc := ~~~s.acc } ∧
    exec (.notAccImm imm8) s =
      .next { s.afterFetch 0xF6#8 2 imm8 s.lsb with acc := ~~~s.acc } ∧
    exec (.notAccAbs src) s =
      .next { s.afterFetch 0xF7#8 3 (hiByte src) (loByte src) with acc := ~~~s.acc } ∧
    exec (.notMarInd) s =
      .next { s.afterFetch 0xF8#8 1 s.msb s.lsb with mar := ~~~s.mar } ∧
    exec (.notMarAcc) s =
      .next { s.afterFetch 0xF9#8 1 s.msb s.lsb with mar := joinBytes 0x00#8 (~~~(loByte s.mar)) } ∧
    exec (.notMarImm imm) s =
      .next { s.afterFetch 0xFA#8 3 (hiByte imm) (loByte imm) with mar := ~~~s.mar } ∧
    exec (.notMarAbs src) s =
      .next { s.afterFetch 0xFB#8 3 (hiByte src) (loByte src) with mar := ~~~s.mar } ∧
    exec (.notAbsInd dst) s =
      .next { s.afterFetch 0xFC#8 3 (hiByte dst) (loByte dst) with mem := Memory.writeWord s.mem dst (~~~(s.wordAt dst)) } ∧
    exec (.notAbsAcc dst) s =
      .next { s.afterFetch 0xFD#8 3 (hiByte dst) (loByte dst) with mem := Memory.writeByte s.mem dst (~~~(s.byteAt dst)) } ∧
    exec (.notAbsImm dst imm) s =
      .next { s.afterFetch 0xFE#8 5 (hiByte imm) (loByte imm) with mem := Memory.writeWord s.mem imm (~~~(s.wordAt imm)) } ∧
    exec (.notAbsAbs dst src) s =
      .next { s.afterFetch 0xFF#8 5 (hiByte src) (loByte src) with mem := Memory.writeWord s.mem src (~~~(s.wordAt src)) }

/-- The frame of `F ACC, src` for the eight functions and four sources (R88, R26, R100). PCX is D3 (log 8). -/
def Obligations.AluAccFormsFrame : Prop :=
  ∀ (i : Instr) (f : AluFunc) (c : Src) (s t : State), i.op = .alu f .acc c → exec i s = .next t →
    t = { s.afterFetch i.opcode i.length t.msb t.lsb with mem := t.mem, acc := t.acc } ∧
      (i.length = 1 → t.msb = s.msb) ∧ (i.length ≤ 2 → t.lsb = s.lsb) ∧ ∀ a, t.byteAt a = s.byteAt a

/-- The frame of `F MAR, src` (R88, R26, R100). The cleared high byte of the 8-bit forms is D8 (R89, log 13), PCX D3
(log 8). -/
def Obligations.AluMarFormsFrame : Prop :=
  ∀ (i : Instr) (f : AluFunc) (c : Src) (s t : State), i.op = .alu f .mar c → exec i s = .next t →
    t = { s.afterFetch i.opcode i.length t.msb t.lsb with mem := t.mem, mar := t.mar } ∧
      (i.length = 1 → t.msb = s.msb) ∧ (i.length ≤ 2 → t.lsb = s.lsb) ∧ (c = .acc → hiByte t.mar = 0x00#8) ∧
      ∀ a, t.byteAt a = s.byteAt a

/-- The frame of `F [MAR], src` and `F [a16], src`: the address is the one `saveResult` uses (R88, R36). The two-group forms store at the source
group by D6 (R90, log 11), a word at 0xFFFF wraps by D5 (log 10), and PCX is D3 (log 8). -/
def Obligations.AluMemoryFormsFrame : Prop :=
  ∀ (i : Instr) (f : AluFunc) (d : Dest) (c : Src) (s t : State) (addr : Word),
    i.op = .alu f d c → (d = .ind ∧ addr = (fetchOf i s).mar ∨ d = .abs ∧ addr = (fetchOf i s).latch) →
    exec i s = .next t →
    t = { s.afterFetch i.opcode i.length t.msb t.lsb with mem := t.mem } ∧
      (i.length = 1 → t.msb = s.msb) ∧ (i.length ≤ 2 → t.lsb = s.lsb) ∧
      ∀ a, a ≠ addr → (aluWidth d c = .w16 → a ≠ addr + 1#16) → t.byteAt a = s.byteAt a

/-- R99: NOT is an involution at both widths (W4). The word at 0xFFFF wraps by D5 (log 10). -/
def Obligations.NotTwiceRestoresDestination : Prop :=
  ∀ (s t u : State) (imm imm' : Word),
    (exec .notAccAcc s = .next t → exec .notAccAcc t = .next u → u.acc = s.acc) ∧
    (exec (.notMarImm imm) s = .next t → exec (.notMarImm imm') t = .next u → u.mar = s.mar) ∧
    (Memory.wf s.mem = true → exec .notIndInd s = .next t → exec .notIndInd t = .next u →
      u.wordAt s.mar = s.wordAt s.mar)

/-- R90: the 2 destination-address bytes are consumed but unused. It rests on D6 (log 11). -/
def Obligations.TwoGroupFormsIgnoreDestinationAddress : Prop :=
  ∀ (i j : Instr) (f : AluFunc) (c : Src) (d d' g : Word) (s : State),
    i.op = .alu f .abs c → j.op = .alu f .abs c →
    i.groups = [.word d, .word g] → j.groups = [.word d', .word g] → exec i s = exec j s

/-- R104 to R106. The opcode in IR rests on the register polarity of C1, a DESIGN CHOICE (log 19).
PCX, which is D3 (log 8), is left open here: O16 states it. -/
def Obligations.LoadAccTakesItsOperand : Prop :=
  ∀ (s : State) (addr : Word) (imm8 : Byte),
    (∃ x, exec (.loadAccAbs addr) s =
      .next { s.afterFetch 0x08#8 3 (hiByte addr) (loByte addr) with acc := s.byteAt addr, pcx := x }) ∧
    (∃ x, exec (.loadAccImm imm8) s =
      .next { s.afterFetch 0x09#8 2 imm8 s.lsb with acc := imm8, pcx := x }) ∧
    (∃ x, exec (.loadAccInd) s =
      .next { s.afterFetch 0x0A#8 1 s.msb s.lsb with acc := s.byteAt s.mar, pcx := x })

/-- R108. The opcode in IR rests on the register polarity of C1, a DESIGN CHOICE (log 19).
PCX, which is D3 (log 8), is left open here: O16 states it. -/
def Obligations.LoadMarImmediateTakesTheConstant : Prop :=
  ∀ (s : State) (imm : Word),
    (∃ x, exec (.loadMarImm imm) s =
      .next { s.afterFetch 0x0D#8 3 (hiByte imm) (loByte imm) with mar := imm, pcx := x })

/-- R107 and R109. The wrap at 0xFFFF is D5 (log 10), the opcode in IR C1 (log 19), PCX D3 (log 8). -/
def Obligations.LoadMarFromMemoryTakesTheWord : Prop :=
  ∀ (s : State) (addr : Word),
    exec (.loadMarAbs addr) s =
      .next { s.afterFetch 0x0C#8 3 (hiByte addr) (loByte addr) with mar := joinBytes (s.byteAt addr) (s.byteAt (addr + 1#16)) } ∧
    exec (.loadMarInd) s =
      .next { s.afterFetch 0x0E#8 1 s.msb s.lsb with mar := joinBytes (s.byteAt s.mar) (s.byteAt (s.mar + 1#16)) }

/-- R111. The opcode in IR rests on the register polarity of C1, a DESIGN CHOICE (log 19).
PCX, which is D3 (log 8), is left open here: O16 states it. -/
def Obligations.StoreAccIndirectStoresTheByte : Prop :=
  ∀ s : State,
    (∃ x, exec (.storeAccInd) s =
      .next { s.afterFetch 0x02#8 1 s.msb s.lsb with mem := Memory.writeByte s.mem s.mar s.acc, pcx := x })

/-- R110, R112 and R113. The wrap at 0xFFFF is D5 (log 10), the opcode in IR C1 (log 19), PCX D3 (log 8). -/
def Obligations.OtherStoresCompleteWithTheirWrite : Prop :=
  ∀ (s : State) (addr : Word),
    exec (.storeAccAbs addr) s =
      .next { s.afterFetch 0x00#8 3 (hiByte addr) (loByte addr) with mem := Memory.writeByte s.mem addr s.acc } ∧
    exec (.storeMarAbs addr) s =
      .next { s.afterFetch 0x04#8 3 (hiByte addr) (loByte addr) with
        mem := Memory.writeByte (Memory.writeByte s.mem addr (hiByte s.mar)) (addr + 1#16) (loByte s.mar) } ∧
    exec .storeMarInd s =
      .next { s.afterFetch 0x06#8 1 s.msb s.lsb with
        mem := Memory.writeByte (Memory.writeByte s.mem s.mar (hiByte s.mar)) (s.mar + 1#16) (loByte s.mar) }

/-- R116: LOAD never writes memory. R26: the register it writes. PCX is D3 (log 8), method 3 D10 (log 15). -/
def Obligations.LoadFormsFrame : Prop :=
  ∀ (i : Instr) (r : MemReg) (m : Method) (s t : State), i.op = .mem .load r m → m ≠ .undef → exec i s = .next t →
    (∀ a, t.byteAt a = s.byteAt a) ∧ (i.length = 1 → t.msb = s.msb) ∧ (i.length ≤ 2 → t.lsb = s.lsb) ∧
      (r = .acc → t = { s.afterFetch i.opcode i.length t.msb t.lsb with mem := t.mem, acc := t.acc }) ∧
      (r = .mar → t = { s.afterFetch i.opcode i.length t.msb t.lsb with mem := t.mem, mar := t.mar })

/-- R116: STORE never writes a register. R36: the cells it writes. The wrap at 0xFFFF is D5 (log 10), PCX D3 (log 8). -/
def Obligations.StoreFormsFrame : Prop :=
  ∀ (i : Instr) (r : MemReg) (m : Method) (s t : State) (addr : Word), i.op = .mem .store r m →
    (m = .abs ∧ addr = placeAddr .absolute (fetchOf i s) ∨ m = .ind ∧ addr = placeAddr .viaMar (fetchOf i s)) →
    exec i s = .next t →
    t = { s.afterFetch i.opcode i.length t.msb t.lsb with mem := t.mem } ∧
      (i.length = 1 → t.msb = s.msb) ∧ (i.length ≤ 2 → t.lsb = s.lsb) ∧
      ∀ a, a ≠ addr → (r = .mar → a ≠ addr + 1#16) → t.byteAt a = s.byteAt a

/-- R31 and R33: data words are big-endian. The wrap at 0xFFFF is D5 (log 10). -/
def Obligations.StoredWordReadsBackBigEndian : Prop :=
  ∀ (s t : State) (addr : Word), Memory.wf s.mem = true →
    (exec (.storeMarAbs addr) s = .next t → t.byteAt addr = hiByte s.mar ∧ t.byteAt (addr + 1#16) = loByte s.mar) ∧
    (exec .storeMarInd s = .next t → t.byteAt s.mar = hiByte s.mar ∧ t.byteAt (s.mar + 1#16) = loByte s.mar) ∧
    (exec (.storeAccAbs addr) s = .next t → t.byteAt addr = s.acc) ∧
    (exec .storeAccInd s = .next t → t.byteAt s.mar = s.acc)

/-- R116 and W6. x and y are any value the register may have been given in between. A word at 0xFFFF wraps by D5 (log 10). -/
def Obligations.StoreThenLoadRoundTrips : Prop :=
  ∀ (s t u v : State) (addr : Word) (x : Byte) (y : Word), Memory.wf s.mem = true →
    (exec (.storeAccAbs addr) s = .next t → exec (.loadAccAbs addr) { t with acc := x } = .next u → u.acc = s.acc) ∧
    (exec (.storeMarAbs addr) s = .next t → exec (.loadMarAbs addr) { t with mar := y } = .next v → v.mar = s.mar)

/-- R44 and R159: instruction fetch sees every earlier store. It rests on D17 (log 28); that only OutOfBounds stops the
fetch is D3 and D4 (log 8, 9). -/
def Obligations.StoreIsSeenByTheNextFetch : Prop :=
  ∀ (s t u : State) (addr : Word), Memory.wf s.mem = true → exec (.storeAccAbs addr) s = .next t → t.pc = addr →
    step t = .next u → u.err ≠ .outOfBounds → u.ir = s.acc

/-- R120 to R125. -/
def Obligations.ConditionalBranchesGoWhereTheRuleSays : Prop :=
  ∀ (s : State) (b : BitVec 4) (target : Word),
    (∃ t, exec (.brz b target) s = .next t ∧ t.ir = branchOpcode b 0b001#3 ∧ t.err = s.err ∧
      t.pc = if s.acc = 0x00#8 then target else s.pc + 3#16) ∧
    (∃ t, exec (.bnz b target) s = .next t ∧ t.ir = branchOpcode b 0b010#3 ∧ t.err = s.err ∧
      t.pc = if s.acc ≠ 0x00#8 then target else s.pc + 3#16) ∧
    (∃ t, exec (.blt b target) s = .next t ∧ t.ir = branchOpcode b 0b011#3 ∧ t.err = s.err ∧
      t.pc = if s.acc.getLsbD 7 = true then target else s.pc + 3#16) ∧
    (∃ t, exec (.ble b target) s = .next t ∧ t.ir = branchOpcode b 0b100#3 ∧ t.err = s.err ∧
      t.pc = if s.acc.getLsbD 7 = true ∨ s.acc = 0x00#8 then target else s.pc + 3#16) ∧
    (∃ t, exec (.bgt b target) s = .next t ∧ t.ir = branchOpcode b 0b101#3 ∧ t.err = s.err ∧
      t.pc = if s.acc.getLsbD 7 = false ∧ s.acc ≠ 0x00#8 then target else s.pc + 3#16) ∧
    (∃ t, exec (.bge b target) s = .next t ∧ t.ir = branchOpcode b 0b110#3 ∧ t.err = s.err ∧
      t.pc = if s.acc.getLsbD 7 = false then target else s.pc + 3#16)

/-- R117 to R126. The write of PCX is D3 (log 8); that type 7 is never taken is D9 (log 14). -/
def Obligations.BranchesCompleteWithTheirWholeEffect : Prop :=
  ∀ (s : State) (b : BitVec 4) (target : Word),
    exec (.bra b target) s =
      .next { s.afterFetch (branchOpcode b 0b000#3) 3 (hiByte target) (loByte target) with pc := target, pcx := false } ∧
    exec (.brz b target) s =
      .next (if s.acc = 0x00#8 then { s.afterFetch (branchOpcode b 0b001#3) 3 (hiByte target) (loByte target) with pc := target, pcx := false }
        else s.afterFetch (branchOpcode b 0b001#3) 3 (hiByte target) (loByte target)) ∧
    exec (.bnz b target) s =
      .next (if s.acc ≠ 0x00#8 then { s.afterFetch (branchOpcode b 0b010#3) 3 (hiByte target) (loByte target) with pc := target, pcx := false }
        else s.afterFetch (branchOpcode b 0b010#3) 3 (hiByte target) (loByte target)) ∧
    exec (.blt b target) s =
      .next (if s.acc.getLsbD 7 = true then { s.afterFetch (branchOpcode b 0b011#3) 3 (hiByte target) (loByte target) with pc := target, pcx := false }
        else s.afterFetch (branchOpcode b 0b011#3) 3 (hiByte target) (loByte target)) ∧
    exec (.ble b target) s =
      .next (if s.acc.getLsbD 7 = true ∨ s.acc = 0x00#8 then { s.afterFetch (branchOpcode b 0b100#3) 3 (hiByte target) (loByte target) with pc := target, pcx := false }
        else s.afterFetch (branchOpcode b 0b100#3) 3 (hiByte target) (loByte target)) ∧
    exec (.bgt b target) s =
      .next (if s.acc.getLsbD 7 = false ∧ s.acc ≠ 0x00#8 then { s.afterFetch (branchOpcode b 0b101#3) 3 (hiByte target) (loByte target) with pc := target, pcx := false }
        else s.afterFetch (branchOpcode b 0b101#3) 3 (hiByte target) (loByte target)) ∧
    exec (.bge b target) s =
      .next (if s.acc.getLsbD 7 = false then { s.afterFetch (branchOpcode b 0b110#3) 3 (hiByte target) (loByte target) with pc := target, pcx := false }
        else s.afterFetch (branchOpcode b 0b110#3) 3 (hiByte target) (loByte target)) ∧
    exec (.br7 b target) s =
      .next (s.afterFetch (branchOpcode b 0b111#3) 3 (hiByte target) (loByte target))

/-- R118: the evaluator reads ACC as a signed 8-bit value by its sign bit; the comparison with zero is what the conditions are named for.
PCX is D3 (log 8). -/
def Obligations.BranchesCompareSignedAccWithZero : Prop :=
  ∀ (s t : State) (b : BitVec 4) (target : Word),
    (exec (.brz b target) s = .next t →
      (s.acc.toInt = 0 → t.pc = target ∧ t.pcx = false) ∧ (s.acc.toInt ≠ 0 → t.pc = s.pc + 3#16)) ∧
    (exec (.bnz b target) s = .next t →
      (s.acc.toInt ≠ 0 → t.pc = target ∧ t.pcx = false) ∧ (s.acc.toInt = 0 → t.pc = s.pc + 3#16)) ∧
    (exec (.blt b target) s = .next t →
      (s.acc.toInt < 0 → t.pc = target ∧ t.pcx = false) ∧ (0 ≤ s.acc.toInt → t.pc = s.pc + 3#16)) ∧
    (exec (.ble b target) s = .next t →
      (s.acc.toInt ≤ 0 → t.pc = target ∧ t.pcx = false) ∧ (0 < s.acc.toInt → t.pc = s.pc + 3#16)) ∧
    (exec (.bgt b target) s = .next t →
      (0 < s.acc.toInt → t.pc = target ∧ t.pcx = false) ∧ (s.acc.toInt ≤ 0 → t.pc = s.pc + 3#16)) ∧
    (exec (.bge b target) s = .next t →
      (0 ≤ s.acc.toInt → t.pc = target ∧ t.pcx = false) ∧ (s.acc.toInt < 0 → t.pc = s.pc + 3#16))

/-- R117: a branch reads ACC, MSB, LSB and IR and writes only PC and PCX. -/
def Obligations.BranchFormsFrame : Prop :=
  ∀ (i : Instr) (y : BrType) (s t : State), i.op = .br y → exec i s = .next t →
    t = { s with mem := t.mem, ir := i.opcode, pc := t.pc, pcx := t.pcx, msb := t.msb, lsb := t.lsb } ∧
      ∀ a, t.byteAt a = s.byteAt a

/-- R114, R115 and R146, which rest on D10 and D11 (log 15, 16). PCX is D3 (log 8). -/
def Obligations.ErrorFormsFrame : Prop :=
  ∀ (i : Instr) (s t : State), i.isErrorForm → exec i s = .next t →
    t = { s.afterFetch i.opcode i.length t.msb t.lsb with mem := t.mem, err := t.err, errInfo := t.errInfo } ∧
      (i.length = 1 → t.msb = s.msb) ∧ (i.length ≤ 2 → t.lsb = s.lsb) ∧ ∀ a, t.byteAt a = s.byteAt a

/-- The access matrix of R26 over all 152 instructions, with R16, R17 and R116 (no base register is modified). That the error forms
write neither is D10 and D11 (log 15, 16). -/
def Obligations.OnlyDestinationsChangeAccAndMar : Prop :=
  ∀ (i : Instr) (s t : State), exec i s = .next t →
    (t.acc ≠ s.acc → i.writesAcc) ∧ (t.mar ≠ s.mar → i.writesMar)

/-- The invariant is `State.Inv` of Safety.lean. PCX is D3, the recorded values D13, the state after an error D4 and D12 (log 8, 9, 17, 18).
That memory is held in a canonical form is the model's own choice (log 1). -/
def Obligations.StepKeepsInvariant : Prop :=
  ∀ s t : State, s.Inv → step s = .next t → t.Inv

/-- R28 and R152: launch with PCX = 0 and ERR = None. The values zero of `State.reset` are the model's choice (log 1 to 6); the invariant rests on
none of them. -/
def Obligations.LaunchSatisfiesInvariant : Prop :=
  (∀ l : Launch, Memory.wf l.mem = true → (State.launch l).Inv) ∧ State.reset.Inv

/-- R28 and R152, which rest on D2 (log 6). It states no value the spec leaves unspecified. -/
def Obligations.LaunchStateIsAsTheSpecSays : Prop :=
  (∀ l : Launch, (State.launch l).pc = l.pc ∧ (State.launch l).pcx = false ∧ (State.launch l).err = .none ∧
      (State.launch l).errInfo = 0#17 ∧ (State.launch l).acc = l.acc ∧ (State.launch l).mar = l.mar ∧
      (State.launch l).ir = l.ir ∧ (State.launch l).msb = l.msb ∧ (State.launch l).lsb = l.lsb ∧
      (State.launch l).mem = l.mem) ∧
    (∃ l : Launch, State.reset = State.launch l ∧ l.pc = 0x0000#16)

/-- R154 and R160: execute reads no latch byte that its own fetch did not write. The two-group forms follow D6, a failed fetch D4, PCX D3
(log 8, 9, 11). -/
def Obligations.LatchAndIrDoNotAffectAStep : Prop :=
  ∀ s t s' : State, SameButLatch s t → step s = .next s' → ∃ t', step t = .next t' ∧ SameButLatch s' t'

/-- R154 over whole runs of the driver loop (R136, which rests on D14 and D16; log 21, 22). -/
def Obligations.LaunchLatchAndIrDoNotAffectARun : Prop :=
  ∀ (halt : Byte) (fuel : Nat) (s t : State), SameButLatch s t →
    match driverRun halt fuel s, driverRun halt fuel t with
    | .normal s', .normal t' => SameButLatch s' t'
    | .error s', .error t' => SameButLatch s' t'
    | .outOfFuel s', .outOfFuel t' => SameButLatch s' t'
    | _, _ => False

/-- R36 over all forms, and R83: fetch writes no memory. A word at 0xFFFF wraps by D5, the two-group forms follow D6 (log 10, 11). -/
def Obligations.StepWritesOnlyListedCells : Prop :=
  ∀ (s t : State) (a : Word), step s = .next t → Access.write a ∉ stepAccesses s → t.byteAt a = s.byteAt a

/-- R83: fetch reads exactly the bytes of the instruction. R36 and R130: execute reads only the cells of its operands.
A word at 0xFFFF wraps by D5, the two-group forms follow D6, a failed fetch D3 and D4 (log 8 to 11). -/
def Obligations.StepDependsOnlyOnListedCells : Prop :=
  ∀ s t s' : State, SameRegisters s t → Memory.wf s.mem = true → Memory.wf t.mem = true →
    (∀ a, Access.fetch a ∈ stepAccesses s ∨ Access.read a ∈ stepAccesses s → s.byteAt a = t.byteAt a) →
    step s = .next s' →
    ∃ t', step t = .next t' ∧ SameRegisters s' t' ∧ stepAccesses t = stepAccesses s ∧
      ∀ a, Access.write a ∈ stepAccesses s → s'.byteAt a = t'.byteAt a

/-- R163, which the spec derives from R36. STORE immediate and method 3 access nothing by D10 and D11 (log 15, 16). -/
def Obligations.AccessCountsFollowTheFormula : Prop :=
  ∀ (i : Instr) (s : State) (f : AluFunc) (d : Dest) (c : Src) (r : MemReg) (y : BrType),
    (fetchCells s.pc i.length).length = i.length ∧
    (readCells (.alu f d c) s).length =
      (if d = .ind ∨ d = .abs then (aluWidth d c).bits / 8 else 0) +
        (if c = .ind ∨ c = .abs then (aluWidth d c).bits / 8 else 0) ∧
    (writeCells (.alu f d c) s).length = (if d = .ind ∨ d = .abs then (aluWidth d c).bits / 8 else 0) ∧
    (∀ m, m = .abs ∨ m = .ind →
      (readCells (.mem .load r m) s).length = (if r = .acc then 1 else 2) ∧
        (writeCells (.mem .store r m) s).length = (if r = .acc then 1 else 2)) ∧
    (∀ m, m = .imm ∨ m = .undef →
      readCells (.mem .load r m) s = [] ∧ writeCells (.mem .store r m) s = []) ∧
    (∀ m, writeCells (.mem .load r m) s = [] ∧ readCells (.mem .store r m) s = []) ∧
    readCells (.br y) s = [] ∧ writeCells (.br y) s = []

/-- R136 and R137, which rest on D14 (log 21). PCX is D3 (log 8). -/
def Obligations.NormalEndStandsAtTheHaltByte : Prop :=
  ∀ (halt : Byte) (fuel : Nat) (s t : State), s.err = .none →
    (driverRun halt fuel s = .normal t → Reaches s t ∧ t.err = .none ∧ t.pcx = false ∧ t.byteAt t.pc = halt) ∧
      (s.pcx = false → s.byteAt s.pc = halt → driverRun halt (fuel + 1) s = .normal s)

/-- R137, with R133 for the step after it (D12, D14; log 17, 21). -/
def Obligations.ErrorEndHasAnError : Prop :=
  ∀ (halt : Byte) (fuel : Nat) (s t : State), s.err = .none → driverRun halt fuel s = .error t →
    Reaches s t ∧ t.err ≠ .none ∧ step t = .fault .coreStopped

/-- R138: a model runs the loop under fuel; the fuel is no part of the machine (R137). -/
def Obligations.MoreFuelKeepsTheEnd : Prop :=
  ∀ (halt : Byte) (fuel more : Nat) (s t : State),
    (driverRun halt fuel s = .normal t → driverRun halt (fuel + more) s = .normal t) ∧
      (driverRun halt fuel s = .error t → driverRun halt (fuel + more) s = .error t)
end

