-- ==== Sys2Proof/Laws/Bytes.lean ====
section
/-! SUPPORT. Splitting a word into bytes and joining bytes into a word (R10, R31). -/

namespace Sys2Proof

@[simp] theorem joinBytes_hiByte_loByte (w : Word) : joinBytes (hiByte w) (loByte w) = w := by
  unfold joinBytes hiByte loByte
  ext k hk
  simp only [BitVec.getElem_append, BitVec.getElem_extractLsb']
  split
  · simp [BitVec.getLsbD_eq_getElem hk]
  · rename_i h
    have : 8 + (k - 8) = k := by omega
    simp [this, BitVec.getLsbD_eq_getElem hk]

@[simp] theorem hiByte_joinBytes (hi lo : Byte) : hiByte (joinBytes hi lo) = hi := by
  unfold joinBytes hiByte
  ext k hk
  rw [BitVec.getElem_extractLsb', BitVec.getLsbD_append]
  simp [BitVec.getLsbD_eq_getElem hk]

@[simp] theorem loByte_joinBytes (hi lo : Byte) : loByte (joinBytes hi lo) = lo := by
  unfold joinBytes loByte
  ext k hk
  rw [BitVec.getElem_extractLsb', BitVec.getLsbD_append]
  simp [hk]

/-- A word is determined by its two bytes. -/
theorem word_ext {v w : Word} (hhi : hiByte v = hiByte w) (hlo : loByte v = loByte w) : v = w := by
  rw [← joinBytes_hiByte_loByte v, ← joinBytes_hiByte_loByte w, hhi, hlo]

@[simp] theorem groupBytes_nil : groupBytes [] = [] := rfl

@[simp] theorem groupBytes_cons_byte (v : Byte) (gs : List Group) : groupBytes (.byte v :: gs) = v :: groupBytes gs := rfl

@[simp] theorem groupBytes_cons_word (v : Word) (gs : List Group) :
    groupBytes (.word v :: gs) = hiByte v :: loByte v :: groupBytes gs := rfl

@[simp] theorem take0_eq (i : Instr) (rest : List Byte) : take0 i rest = .ok (i, rest) := rfl

@[simp] theorem takeByte_cons (code v : Byte) (mk : Byte → Instr) (rest : List Byte) :
    takeByte code mk (v :: rest) = .ok (mk v, rest) := rfl

@[simp] theorem takeWord_cons (code hi lo : Byte) (mk : Word → Instr) (rest : List Byte) :
    takeWord code mk (hi :: lo :: rest) = .ok (mk (joinBytes hi lo), rest) := rfl

@[simp] theorem takeTwoWords_cons (code hi lo : Byte) (mk : Word → Word → Instr) (rest : List Byte) :
    takeTwoWords code mk (hi :: lo :: rest) = takeWord code (mk (joinBytes hi lo)) rest := rfl

end Sys2Proof
end

