-- ==== Sys2Proof/Laws/Memory.lean ====
section
/-! SUPPORT. The laws of memory: read after write, frames, and that every memory operation keeps the canonical form. -/

namespace Sys2Proof.Machine

/-! ### One cell -/

theorem lookup_of_lt {m : Memory} {lo a : Nat} (hm : Memory.wfFrom lo m = true) (h : a < lo) :
    Memory.lookup m a = Config.unlistedByte := by
  induction m generalizing lo with
  | nil => rfl
  | cons c rest ih =>
    obtain ⟨a', b⟩ := c
    simp only [Memory.wfFrom, Bool.and_eq_true, decide_eq_true_eq] at hm
    rw [Memory.lookup, if_neg (by omega)]
    exact ih hm.2 (by omega)

/-- The written cell reads as what was written, in canonical memory. -/
theorem lookup_update_same {m : Memory} {lo : Nat} (hm : Memory.wfFrom lo m = true) (a : Nat) (b : Byte) :
    Memory.lookup (Memory.update m a b) a = b := by
  induction m generalizing lo with
  | nil => by_cases hb : b = Config.unlistedByte <;> simp [Memory.update, Memory.lookup, hb]
  | cons c rest ih =>
    obtain ⟨a', b'⟩ := c
    have hm' := hm
    simp only [Memory.wfFrom, Bool.and_eq_true, decide_eq_true_eq] at hm
    rw [Memory.update]
    split
    · split
      · rename_i h1 hb
        rw [Memory.lookup, if_neg (by omega), hb]
        exact lookup_of_lt hm.2 (by omega)
      · simp [Memory.lookup]
    · split
      · rename_i h1 h2
        split
        · rename_i hb
          rw [hb]
          exact lookup_of_lt hm.2 (by omega)
        · simp [Memory.lookup]
      · rename_i h1 h2
        rw [Memory.lookup, if_neg h2]
        exact ih hm.2

/-- Every other cell reads as before, in any memory. -/
theorem lookup_update_ne (m : Memory) {a x : Nat} (b : Byte) (h : x ≠ a) :
    Memory.lookup (Memory.update m a b) x = Memory.lookup m x := by
  induction m with
  | nil => by_cases hb : b = Config.unlistedByte <;> simp [Memory.update, Memory.lookup, hb, h]
  | cons c rest ih =>
    obtain ⟨a', b'⟩ := c
    rw [Memory.update]
    split
    · split
      · rfl
      · simp [Memory.lookup, h]
    · split
      · rename_i h1 h2
        have hx : x ≠ a' := by omega
        split <;> simp [Memory.lookup, hx, h]
      · simp only [Memory.lookup, ih]

theorem update_wfFrom {m : Memory} {lo a : Nat} (b : Byte) (hm : Memory.wfFrom lo m = true) (hlo : lo ≤ a)
    (ha : a < 0x10000) : Memory.wfFrom lo (Memory.update m a b) = true := by
  induction m generalizing lo with
  | nil => by_cases hb : b = Config.unlistedByte <;> simp [Memory.update, Memory.wfFrom, hb, hlo, ha]
  | cons c rest ih =>
    obtain ⟨a', b'⟩ := c
    have hm' := hm
    simp only [Memory.wfFrom, Bool.and_eq_true, decide_eq_true_eq] at hm
    rw [Memory.update]
    split
    · split
      · exact hm'
      · rename_i h1 hb
        simp only [Memory.wfFrom, Bool.and_eq_true, decide_eq_true_eq]
        exact ⟨⟨⟨hlo, ha⟩, hb⟩, ⟨⟨by omega, hm.1.1.2⟩, hm.1.2⟩, hm.2⟩
    · split
      · rename_i h1 h2
        subst h2
        split
        · exact wfFrom_mono (by omega) hm.2
        · rename_i hb
          simp only [Memory.wfFrom, Bool.and_eq_true, decide_eq_true_eq]
          exact ⟨⟨⟨hlo, ha⟩, hb⟩, hm.2⟩
      · rename_i h1 h2
        simp only [Memory.wfFrom, Bool.and_eq_true, decide_eq_true_eq]
        exact ⟨hm.1, ih hm.2 (by omega)⟩
where
  wfFrom_mono {m : Memory} {lo lo' : Nat} (h : lo ≤ lo') (hm : Memory.wfFrom lo' m = true) :
      Memory.wfFrom lo m = true := by
    cases m with
    | nil => rfl
    | cons c rest =>
      simp only [Memory.wfFrom, Bool.and_eq_true, decide_eq_true_eq] at hm ⊢
      exact ⟨⟨⟨by omega, hm.1.1.2⟩, hm.1.2⟩, hm.2⟩

/-- Canonical memories with equal contents are equal data. -/
theorem memory_ext {m m' : Memory} {lo : Nat} (hm : Memory.wfFrom lo m = true) (hm' : Memory.wfFrom lo m' = true)
    (h : ∀ a, Memory.lookup m a = Memory.lookup m' a) : m = m' := by
  induction m generalizing m' lo with
  | nil =>
    cases m' with
    | nil => rfl
    | cons c rest =>
      simp only [Memory.wfFrom, Bool.and_eq_true, decide_eq_true_eq] at hm'
      have := h c.1
      simp only [Memory.lookup, if_true] at this
      exact absurd this.symm hm'.1.2
  | cons c rest ih =>
    simp only [Memory.wfFrom, Bool.and_eq_true, decide_eq_true_eq] at hm
    cases m' with
    | nil =>
      have := h c.1
      simp only [Memory.lookup, if_true] at this
      exact absurd this hm.1.2
    | cons c' rest' =>
      simp only [Memory.wfFrom, Bool.and_eq_true, decide_eq_true_eq] at hm'
      have key : c.1 = c'.1 := by
        have h1 := h c.1
        have h2 := h c'.1
        simp only [Memory.lookup, if_true] at h1 h2
        rcases Nat.lt_trichotomy c.1 c'.1 with hlt | heq | hlt
        · rw [if_neg (by omega), lookup_of_lt hm'.2 (by omega)] at h1
          exact absurd h1 hm.1.2
        · exact heq
        · rw [if_neg (by omega), lookup_of_lt hm.2 (by omega)] at h2
          exact absurd h2.symm hm'.1.2
      have hb : c.2 = c'.2 := by
        have h1 := h c.1
        simpa [Memory.lookup, key] using h1
      have htail : rest = rest' := by
        refine ih hm.2 (by rw [key]; exact hm'.2) fun a => ?_
        by_cases ha : a = c.1
        · subst ha
          rw [lookup_of_lt hm.2 (by omega), lookup_of_lt hm'.2 (by omega)]
        · have h1 := h a
          simpa [Memory.lookup, ha, key ▸ ha] using h1
      rw [htail, Prod.ext key hb]

/-! ### Bytes and words at 16-bit addresses -/

theorem wf_eq (m : Memory) : Memory.wf m = Memory.wfFrom 0 m := rfl

@[simp] theorem readByte_writeByte_same {m : Memory} (hm : Memory.wf m = true) (a : Word) (v : Byte) :
    Memory.readByte (Memory.writeByte m a v) a = v := lookup_update_same hm _ _

theorem readByte_writeByte_ne (m : Memory) {a x : Word} (v : Byte) (h : x ≠ a) :
    Memory.readByte (Memory.writeByte m a v) x = Memory.readByte m x :=
  lookup_update_ne m v fun e => h (BitVec.eq_of_toNat_eq e)

/-- A byte write keeps the canonical form. -/
@[simp] theorem writeByte_wf {m : Memory} (hm : Memory.wf m = true) (a : Word) (v : Byte) :
    Memory.wf (Memory.writeByte m a v) = true := update_wfFrom v hm (Nat.zero_le _) a.isLt

theorem add_one_ne (a : Word) : a + 1#16 ≠ a := by
  intro h
  have := congrArg BitVec.toNat h
  simp [BitVec.toNat_add] at this
  have := a.isLt
  omega

/-- A word write keeps the canonical form. -/
@[simp] theorem writeWord_wf {m : Memory} (hm : Memory.wf m = true) (a v : Word) :
    Memory.wf (Memory.writeWord m a v) = true := by simp [Memory.writeWord, hm]

theorem readByte_writeWord_hi {m : Memory} (hm : Memory.wf m = true) (a v : Word) :
    Memory.readByte (Memory.writeWord m a v) a = hiByte v := by
  rw [Memory.writeWord, readByte_writeByte_ne _ _ (add_one_ne a).symm, readByte_writeByte_same hm]

theorem readByte_writeWord_lo {m : Memory} (hm : Memory.wf m = true) (a v : Word) :
    Memory.readByte (Memory.writeWord m a v) (a + 1#16) = loByte v := by
  rw [Memory.writeWord, readByte_writeByte_same (writeByte_wf hm _ _)]

theorem readByte_writeWord_ne (m : Memory) {a x : Word} (v : Word) (h : x ≠ a) (h' : x ≠ a + 1#16) :
    Memory.readByte (Memory.writeWord m a v) x = Memory.readByte m x := by
  rw [Memory.writeWord, readByte_writeByte_ne _ _ h', readByte_writeByte_ne _ _ h]

/-- The written word reads back, at every address. -/
@[simp] theorem readWord_writeWord_same {m : Memory} (hm : Memory.wf m = true) (a v : Word) :
    Memory.readWord (Memory.writeWord m a v) a = v := by
  rw [Memory.readWord, readByte_writeWord_hi hm, readByte_writeWord_lo hm, joinBytes_hiByte_loByte]

/-- A write of either width keeps the canonical form. -/
@[simp] theorem writeMem_wf {m : Memory} (hm : Memory.wf m = true) (a : Word) (w : Width) (v : BitVec w.bits) :
    Memory.wf (Memory.writeMem m a w v) = true := by
  cases w
  · exact writeByte_wf hm a v
  · exact writeWord_wf hm a v

/-- A write of either width leaves every byte outside its cells. -/
theorem readByte_writeMem_ne (m : Memory) {a x : Word} (w : Width) (v : BitVec w.bits) (h : x ≠ a)
    (h' : w = .w16 → x ≠ a + 1#16) : Memory.readByte (Memory.writeMem m a w v) x = Memory.readByte m x := by
  cases w
  · exact readByte_writeByte_ne m v h
  · exact readByte_writeWord_ne m v h (h' rfl)

/-- Placing bytes keeps the canonical form. -/
theorem placeBytes_wf (bs : List Byte) {m : Memory} (hm : Memory.wf m = true) (a : Nat) :
    Memory.wf (Memory.placeBytes m a bs) = true := by
  induction bs generalizing m a with
  | nil => exact hm
  | cons b rest ih =>
    rw [Memory.placeBytes]
    split
    · rename_i h
      exact ih (update_wfFrom b hm (Nat.zero_le _) h) _
    · exact hm

/-! ### The bytes of an instruction -/

@[simp] theorem bytesFrom_length (m : Memory) (a n : Nat) : (bytesFrom m a n).length = n := by
  induction n generalizing a with
  | zero => rfl
  | succ n ih => simp [bytesFrom, ih]

@[simp] theorem bytesFrom_zero (m : Memory) (a : Nat) : bytesFrom m a 0 = [] := rfl

@[simp] theorem bytesFrom_succ (m : Memory) (a n : Nat) :
    bytesFrom m a (n + 1) = Memory.lookup m a :: bytesFrom m (a + 1) n := rfl

/-- Inside memory the byte `k` places after PC is the byte at the 16-bit address PC + k. -/
theorem byteAt_add {s : State} {k : Nat} (h : s.pc.toNat + k < 0x10000) :
    s.byteAt (s.pc + BitVec.ofNat 16 k) = Memory.lookup s.mem (s.pc.toNat + k) := by
  unfold State.byteAt Memory.readByte
  congr 1
  rw [BitVec.toNat_add, BitVec.toNat_ofNat]
  omega

end Sys2Proof.Machine
end

