-- ==== Sys2Proof/Laws/State.lean ====
section
/-! SUPPORT. One lemma for each field of State under each named update, so that no proof unfolds a record update. -/

namespace Sys2Proof.Machine

/-! ### `setAcc` -/

@[simp] theorem setAcc_mem (s : State) (v : Byte) : (s.setAcc v).mem = s.mem := rfl
@[simp] theorem setAcc_acc (s : State) (v : Byte) : (s.setAcc v).acc = v := rfl
@[simp] theorem setAcc_mar (s : State) (v : Byte) : (s.setAcc v).mar = s.mar := rfl
@[simp] theorem setAcc_ir (s : State) (v : Byte) : (s.setAcc v).ir = s.ir := rfl
@[simp] theorem setAcc_pc (s : State) (v : Byte) : (s.setAcc v).pc = s.pc := rfl
@[simp] theorem setAcc_pcx (s : State) (v : Byte) : (s.setAcc v).pcx = s.pcx := rfl
@[simp] theorem setAcc_msb (s : State) (v : Byte) : (s.setAcc v).msb = s.msb := rfl
@[simp] theorem setAcc_lsb (s : State) (v : Byte) : (s.setAcc v).lsb = s.lsb := rfl
@[simp] theorem setAcc_err (s : State) (v : Byte) : (s.setAcc v).err = s.err := rfl
@[simp] theorem setAcc_errInfo (s : State) (v : Byte) : (s.setAcc v).errInfo = s.errInfo := rfl

/-! ### `setMar` -/

@[simp] theorem setMar_mem (s : State) (v : Word) : (s.setMar v).mem = s.mem := rfl
@[simp] theorem setMar_acc (s : State) (v : Word) : (s.setMar v).acc = s.acc := rfl
@[simp] theorem setMar_mar (s : State) (v : Word) : (s.setMar v).mar = v := rfl
@[simp] theorem setMar_ir (s : State) (v : Word) : (s.setMar v).ir = s.ir := rfl
@[simp] theorem setMar_pc (s : State) (v : Word) : (s.setMar v).pc = s.pc := rfl
@[simp] theorem setMar_pcx (s : State) (v : Word) : (s.setMar v).pcx = s.pcx := rfl
@[simp] theorem setMar_msb (s : State) (v : Word) : (s.setMar v).msb = s.msb := rfl
@[simp] theorem setMar_lsb (s : State) (v : Word) : (s.setMar v).lsb = s.lsb := rfl
@[simp] theorem setMar_err (s : State) (v : Word) : (s.setMar v).err = s.err := rfl
@[simp] theorem setMar_errInfo (s : State) (v : Word) : (s.setMar v).errInfo = s.errInfo := rfl

/-! ### `store` -/

@[simp] theorem store_mem (s : State) (w : Width) (a : Word) (v : BitVec w.bits) : (s.store w a v).mem = Memory.writeMem s.mem a w v := rfl
@[simp] theorem store_acc (s : State) (w : Width) (a : Word) (v : BitVec w.bits) : (s.store w a v).acc = s.acc := rfl
@[simp] theorem store_mar (s : State) (w : Width) (a : Word) (v : BitVec w.bits) : (s.store w a v).mar = s.mar := rfl
@[simp] theorem store_ir (s : State) (w : Width) (a : Word) (v : BitVec w.bits) : (s.store w a v).ir = s.ir := rfl
@[simp] theorem store_pc (s : State) (w : Width) (a : Word) (v : BitVec w.bits) : (s.store w a v).pc = s.pc := rfl
@[simp] theorem store_pcx (s : State) (w : Width) (a : Word) (v : BitVec w.bits) : (s.store w a v).pcx = s.pcx := rfl
@[simp] theorem store_msb (s : State) (w : Width) (a : Word) (v : BitVec w.bits) : (s.store w a v).msb = s.msb := rfl
@[simp] theorem store_lsb (s : State) (w : Width) (a : Word) (v : BitVec w.bits) : (s.store w a v).lsb = s.lsb := rfl
@[simp] theorem store_err (s : State) (w : Width) (a : Word) (v : BitVec w.bits) : (s.store w a v).err = s.err := rfl
@[simp] theorem store_errInfo (s : State) (w : Width) (a : Word) (v : BitVec w.bits) : (s.store w a v).errInfo = s.errInfo := rfl

/-! ### `latchGroup` of a byte -/

@[simp] theorem latchGroup_byte_mem (s : State) (v : Byte) : (s.latchGroup (.byte v)).mem = s.mem := rfl
@[simp] theorem latchGroup_byte_acc (s : State) (v : Byte) : (s.latchGroup (.byte v)).acc = s.acc := rfl
@[simp] theorem latchGroup_byte_mar (s : State) (v : Byte) : (s.latchGroup (.byte v)).mar = s.mar := rfl
@[simp] theorem latchGroup_byte_ir (s : State) (v : Byte) : (s.latchGroup (.byte v)).ir = s.ir := rfl
@[simp] theorem latchGroup_byte_pc (s : State) (v : Byte) : (s.latchGroup (.byte v)).pc = s.pc := rfl
@[simp] theorem latchGroup_byte_pcx (s : State) (v : Byte) : (s.latchGroup (.byte v)).pcx = s.pcx := rfl
@[simp] theorem latchGroup_byte_msb (s : State) (v : Byte) : (s.latchGroup (.byte v)).msb = v := rfl
@[simp] theorem latchGroup_byte_lsb (s : State) (v : Byte) : (s.latchGroup (.byte v)).lsb = s.lsb := rfl
@[simp] theorem latchGroup_byte_err (s : State) (v : Byte) : (s.latchGroup (.byte v)).err = s.err := rfl
@[simp] theorem latchGroup_byte_errInfo (s : State) (v : Byte) : (s.latchGroup (.byte v)).errInfo = s.errInfo := rfl

/-! ### `latchGroup` of a word -/

@[simp] theorem latchGroup_word_mem (s : State) (v : Word) : (s.latchGroup (.word v)).mem = s.mem := rfl
@[simp] theorem latchGroup_word_acc (s : State) (v : Word) : (s.latchGroup (.word v)).acc = s.acc := rfl
@[simp] theorem latchGroup_word_mar (s : State) (v : Word) : (s.latchGroup (.word v)).mar = s.mar := rfl
@[simp] theorem latchGroup_word_ir (s : State) (v : Word) : (s.latchGroup (.word v)).ir = s.ir := rfl
@[simp] theorem latchGroup_word_pc (s : State) (v : Word) : (s.latchGroup (.word v)).pc = s.pc := rfl
@[simp] theorem latchGroup_word_pcx (s : State) (v : Word) : (s.latchGroup (.word v)).pcx = s.pcx := rfl
@[simp] theorem latchGroup_word_msb (s : State) (v : Word) : (s.latchGroup (.word v)).msb = hiByte v := rfl
@[simp] theorem latchGroup_word_lsb (s : State) (v : Word) : (s.latchGroup (.word v)).lsb = loByte v := rfl
@[simp] theorem latchGroup_word_err (s : State) (v : Word) : (s.latchGroup (.word v)).err = s.err := rfl
@[simp] theorem latchGroup_word_errInfo (s : State) (v : Word) : (s.latchGroup (.word v)).errInfo = s.errInfo := rfl

/-! ### `advance` -/

@[simp] theorem advance_mem (s : State) (len : Nat) : (s.advance len).mem = s.mem := rfl
@[simp] theorem advance_acc (s : State) (len : Nat) : (s.advance len).acc = s.acc := rfl
@[simp] theorem advance_mar (s : State) (len : Nat) : (s.advance len).mar = s.mar := rfl
@[simp] theorem advance_ir (s : State) (len : Nat) : (s.advance len).ir = s.ir := rfl
@[simp] theorem advance_pc (s : State) (len : Nat) : (s.advance len).pc = s.pc + BitVec.ofNat 16 len := rfl
@[simp] theorem advance_pcx (s : State) (len : Nat) : (s.advance len).pcx = decide (s.pc.toNat + len = 0x10000) := rfl
@[simp] theorem advance_msb (s : State) (len : Nat) : (s.advance len).msb = s.msb := rfl
@[simp] theorem advance_lsb (s : State) (len : Nat) : (s.advance len).lsb = s.lsb := rfl
@[simp] theorem advance_err (s : State) (len : Nat) : (s.advance len).err = s.err := rfl
@[simp] theorem advance_errInfo (s : State) (len : Nat) : (s.advance len).errInfo = s.errInfo := rfl

/-! ### `jump` -/

@[simp] theorem jump_mem (s : State) (target : Word) : (s.jump target).mem = s.mem := rfl
@[simp] theorem jump_acc (s : State) (target : Word) : (s.jump target).acc = s.acc := rfl
@[simp] theorem jump_mar (s : State) (target : Word) : (s.jump target).mar = s.mar := rfl
@[simp] theorem jump_ir (s : State) (target : Word) : (s.jump target).ir = s.ir := rfl
@[simp] theorem jump_pc (s : State) (target : Word) : (s.jump target).pc = target := rfl
@[simp] theorem jump_pcx (s : State) (target : Word) : (s.jump target).pcx = false := rfl
@[simp] theorem jump_msb (s : State) (target : Word) : (s.jump target).msb = s.msb := rfl
@[simp] theorem jump_lsb (s : State) (target : Word) : (s.jump target).lsb = s.lsb := rfl
@[simp] theorem jump_err (s : State) (target : Word) : (s.jump target).err = s.err := rfl
@[simp] theorem jump_errInfo (s : State) (target : Word) : (s.jump target).errInfo = s.errInfo := rfl

/-! ### `raise` -/

@[simp] theorem raise_mem (s : State) (kind : Err) (info : ErrInfo) : (s.raise kind info).mem = s.mem := rfl
@[simp] theorem raise_acc (s : State) (kind : Err) (info : ErrInfo) : (s.raise kind info).acc = s.acc := rfl
@[simp] theorem raise_mar (s : State) (kind : Err) (info : ErrInfo) : (s.raise kind info).mar = s.mar := rfl
@[simp] theorem raise_ir (s : State) (kind : Err) (info : ErrInfo) : (s.raise kind info).ir = s.ir := rfl
@[simp] theorem raise_pc (s : State) (kind : Err) (info : ErrInfo) : (s.raise kind info).pc = s.pc := rfl
@[simp] theorem raise_pcx (s : State) (kind : Err) (info : ErrInfo) : (s.raise kind info).pcx = s.pcx := rfl
@[simp] theorem raise_msb (s : State) (kind : Err) (info : ErrInfo) : (s.raise kind info).msb = s.msb := rfl
@[simp] theorem raise_lsb (s : State) (kind : Err) (info : ErrInfo) : (s.raise kind info).lsb = s.lsb := rfl
@[simp] theorem raise_err (s : State) (kind : Err) (info : ErrInfo) : (s.raise kind info).err = kind := rfl
@[simp] theorem raise_errInfo (s : State) (kind : Err) (info : ErrInfo) : (s.raise kind info).errInfo = info := rfl

/-! ### `afterFetch` -/

@[simp] theorem afterFetch_mem (s : State) (code : Byte) (len : Nat) (hi lo : Byte) : (s.afterFetch code len hi lo).mem = s.mem := rfl
@[simp] theorem afterFetch_acc (s : State) (code : Byte) (len : Nat) (hi lo : Byte) : (s.afterFetch code len hi lo).acc = s.acc := rfl
@[simp] theorem afterFetch_mar (s : State) (code : Byte) (len : Nat) (hi lo : Byte) : (s.afterFetch code len hi lo).mar = s.mar := rfl
@[simp] theorem afterFetch_ir (s : State) (code : Byte) (len : Nat) (hi lo : Byte) : (s.afterFetch code len hi lo).ir = code := rfl
@[simp] theorem afterFetch_pc (s : State) (code : Byte) (len : Nat) (hi lo : Byte) : (s.afterFetch code len hi lo).pc = s.pc + BitVec.ofNat 16 len := rfl
@[simp] theorem afterFetch_pcx (s : State) (code : Byte) (len : Nat) (hi lo : Byte) : (s.afterFetch code len hi lo).pcx = decide (s.pc.toNat + len = 0x10000) := rfl
@[simp] theorem afterFetch_msb (s : State) (code : Byte) (len : Nat) (hi lo : Byte) : (s.afterFetch code len hi lo).msb = hi := rfl
@[simp] theorem afterFetch_lsb (s : State) (code : Byte) (len : Nat) (hi lo : Byte) : (s.afterFetch code len hi lo).lsb = lo := rfl
@[simp] theorem afterFetch_err (s : State) (code : Byte) (len : Nat) (hi lo : Byte) : (s.afterFetch code len hi lo).err = s.err := rfl
@[simp] theorem afterFetch_errInfo (s : State) (code : Byte) (len : Nat) (hi lo : Byte) : (s.afterFetch code len hi lo).errInfo = s.errInfo := rfl

/-! ### `driverWrite` -/

@[simp] theorem driverWrite_mem (s : State) (a : Word) (v : Byte) : (s.driverWrite a v).mem = Memory.writeByte s.mem a v := rfl
@[simp] theorem driverWrite_acc (s : State) (a : Word) (v : Byte) : (s.driverWrite a v).acc = s.acc := rfl
@[simp] theorem driverWrite_mar (s : State) (a : Word) (v : Byte) : (s.driverWrite a v).mar = s.mar := rfl
@[simp] theorem driverWrite_ir (s : State) (a : Word) (v : Byte) : (s.driverWrite a v).ir = s.ir := rfl
@[simp] theorem driverWrite_pc (s : State) (a : Word) (v : Byte) : (s.driverWrite a v).pc = s.pc := rfl
@[simp] theorem driverWrite_pcx (s : State) (a : Word) (v : Byte) : (s.driverWrite a v).pcx = s.pcx := rfl
@[simp] theorem driverWrite_msb (s : State) (a : Word) (v : Byte) : (s.driverWrite a v).msb = s.msb := rfl
@[simp] theorem driverWrite_lsb (s : State) (a : Word) (v : Byte) : (s.driverWrite a v).lsb = s.lsb := rfl
@[simp] theorem driverWrite_err (s : State) (a : Word) (v : Byte) : (s.driverWrite a v).err = s.err := rfl
@[simp] theorem driverWrite_errInfo (s : State) (a : Word) (v : Byte) : (s.driverWrite a v).errInfo = s.errInfo := rfl

/-! ### `driverSetPc` -/

@[simp] theorem driverSetPc_mem (s : State) (p : Word) : (s.driverSetPc p).mem = s.mem := rfl
@[simp] theorem driverSetPc_acc (s : State) (p : Word) : (s.driverSetPc p).acc = s.acc := rfl
@[simp] theorem driverSetPc_mar (s : State) (p : Word) : (s.driverSetPc p).mar = s.mar := rfl
@[simp] theorem driverSetPc_ir (s : State) (p : Word) : (s.driverSetPc p).ir = s.ir := rfl
@[simp] theorem driverSetPc_pc (s : State) (p : Word) : (s.driverSetPc p).pc = p := rfl
@[simp] theorem driverSetPc_pcx (s : State) (p : Word) : (s.driverSetPc p).pcx = false := rfl
@[simp] theorem driverSetPc_msb (s : State) (p : Word) : (s.driverSetPc p).msb = s.msb := rfl
@[simp] theorem driverSetPc_lsb (s : State) (p : Word) : (s.driverSetPc p).lsb = s.lsb := rfl
@[simp] theorem driverSetPc_err (s : State) (p : Word) : (s.driverSetPc p).err = s.err := rfl
@[simp] theorem driverSetPc_errInfo (s : State) (p : Word) : (s.driverSetPc p).errInfo = s.errInfo := rfl

/-! ### `launch` and the value of Config -/

@[simp] theorem launch_mem (l : Launch) : (State.launch l).mem = l.mem := rfl
@[simp] theorem launch_acc (l : Launch) : (State.launch l).acc = l.acc := rfl
@[simp] theorem launch_mar (l : Launch) : (State.launch l).mar = l.mar := rfl
@[simp] theorem launch_ir (l : Launch) : (State.launch l).ir = l.ir := rfl
@[simp] theorem launch_pc (l : Launch) : (State.launch l).pc = l.pc := rfl
@[simp] theorem launch_pcx (l : Launch) : (State.launch l).pcx = false := rfl
@[simp] theorem launch_msb (l : Launch) : (State.launch l).msb = l.msb := rfl
@[simp] theorem launch_lsb (l : Launch) : (State.launch l).lsb = l.lsb := rfl
@[simp] theorem launch_err (l : Launch) : (State.launch l).err = .none := rfl
@[simp] theorem launch_errInfo (l : Launch) : (State.launch l).errInfo = 0#17 := rfl

/-- The default polarity (C1). -/
theorem memRegPolarity_eq : Config.memRegPolarity = .accIsZero := rfl

/-- The default of I2 (R89). -/
theorem mar8HighByte_eq : Config.mar8HighByte = .zero := rfl

/-! ### `fetched`: what a successful fetch writes -/

@[simp] theorem latchGroups_nil (s : State) : s.latchGroups [] = s := rfl

@[simp] theorem latchGroups_cons (s : State) (g : Group) (gs : List Group) :
    s.latchGroups (g :: gs) = (s.latchGroup g).latchGroups gs := rfl

/-- Latching groups changes MSB and LSB only. -/
theorem latchGroups_frame (gs : List Group) (s : State) :
    s.latchGroups gs = { s with msb := (s.latchGroups gs).msb, lsb := (s.latchGroups gs).lsb } := by
  induction gs generalizing s with
  | nil => rfl
  | cons g gs ih => rw [latchGroups_cons, ih]; cases g <;> rfl

/-- A fetch changes IR, PC, PCX, MSB and LSB only (R83). -/
theorem fetched_eq (s : State) (code : Byte) (gs : List Group) :
    s.fetched code gs =
      s.afterFetch code (1 + (groupBytes gs).length) (s.fetched code gs).msb (s.fetched code gs).lsb := by
  unfold State.fetched
  rw [latchGroups_frame]
  rfl

@[simp] theorem fetched_mem (s : State) (code : Byte) (gs : List Group) : (s.fetched code gs).mem = s.mem := by
  rw [fetched_eq]; rfl

@[simp] theorem fetched_acc (s : State) (code : Byte) (gs : List Group) : (s.fetched code gs).acc = s.acc := by
  rw [fetched_eq]; rfl

@[simp] theorem fetched_mar (s : State) (code : Byte) (gs : List Group) : (s.fetched code gs).mar = s.mar := by
  rw [fetched_eq]; rfl

@[simp] theorem fetched_ir (s : State) (code : Byte) (gs : List Group) : (s.fetched code gs).ir = code := by
  rw [fetched_eq]; rfl

@[simp] theorem fetched_pc (s : State) (code : Byte) (gs : List Group) :
    (s.fetched code gs).pc = s.pc + BitVec.ofNat 16 (1 + (groupBytes gs).length) := by
  rw [fetched_eq]; rfl

@[simp] theorem fetched_pcx (s : State) (code : Byte) (gs : List Group) :
    (s.fetched code gs).pcx = decide (s.pc.toNat + (1 + (groupBytes gs).length) = 0x10000) := by
  rw [fetched_eq]; rfl

@[simp] theorem fetched_err (s : State) (code : Byte) (gs : List Group) : (s.fetched code gs).err = s.err := by
  rw [fetched_eq]; rfl

@[simp] theorem fetched_errInfo (s : State) (code : Byte) (gs : List Group) :
    (s.fetched code gs).errInfo = s.errInfo := by
  rw [fetched_eq]; rfl

/-- The fetch of an instruction, field by field. -/
theorem fetchOf_eq (i : Instr) (s : State) :
    fetchOf i s = s.afterFetch i.opcode i.length (fetchOf i s).msb (fetchOf i s).lsb := fetched_eq _ _ _

end Sys2Proof.Machine
end

