-- ==== Sys2Proof/Laws/Exec.lean ====
section
/-! SUPPORT. What every instruction does, said once: `exec` is the fetch's register writes and then one execute operation chosen by the
fields of the opcode. Claims over all 152 instructions go through `exec_eq` and a case split on `Op`, not through 152 cases. -/

namespace Sys2Proof.Machine

/-- The execute phase by the fields of the opcode, on the state the fetch left. -/
def opResult (o : Op) (s : State) : State :=
  match o with
  | .alu f d c => aluResult f d c s
  | .mem .load r m => pseudoLoad r m s
  | .mem .store r m => pseudoStore r m s
  | .br t => branchResult t s

/-- Every instruction answers the next state that its execute operation gives after its fetch. -/
theorem exec_eq (i : Instr) (s : State) : exec i s = .next (opResult i.op (fetchOf i s)) := by
  cases i <;> rfl

/-- The inversion form of `exec_eq`. -/
theorem eq_of_exec {i : Instr} {s t : State} (h : exec i s = .next t) : t = opResult i.op (fetchOf i s) := by
  rw [exec_eq] at h
  exact (Host.Outcome.next.inj h).symm

/-! ### The shared operations -/

/-- What `SaveResult` can do: one store at MAR or at the latch address, or one register write (R88). -/
theorem saveResult_cases (d : Dest) (w : Width) (r : BitVec w.bits) (s : State) :
    (d = .ind ∧ saveResult d w r s = s.store w s.mar r) ∨
    (d = .acc ∧ saveResult d w r s = s.setAcc (r.setWidth 8)) ∨
    (d = .mar ∧ ∃ v, saveResult d w r s = s.setMar v) ∨
    (d = .abs ∧ saveResult d w r s = s.store w s.latch r) := by
  cases d
  · exact .inl ⟨rfl, rfl⟩
  · exact .inr (.inl ⟨rfl, rfl⟩)
  · exact .inr (.inr (.inl ⟨rfl, _, rfl⟩))
  · exact .inr (.inr (.inr ⟨rfl, rfl⟩))

/-- What a branch can do: jump to the latch address under its condition, or nothing (R117). -/
theorem branchResult_cases (t : BrType) (s : State) :
    (branchCond t s.acc = true ∧ branchResult t s = s.jump s.latch) ∨
    (branchCond t s.acc = false ∧ branchResult t s = s) := by
  unfold branchResult
  cases h : branchCond t s.acc <;> simp

/-- What an execute operation leaves: the IR, the latch and ERR_INFO's partner fields that no execute phase writes (R128). -/
theorem opResult_ir (o : Op) (s : State) : (opResult o s).ir = s.ir := by
  rcases o with ⟨f, d, c⟩ | ⟨_ | _, r, m⟩ | y
  · cases d <;> rfl
  · cases r <;> cases m <;> rfl
  · cases r <;> cases m <;> rfl
  · rcases branchResult_cases y s with ⟨_, h⟩ | ⟨_, h⟩ <;> simp [opResult, h]

theorem opResult_msb (o : Op) (s : State) : (opResult o s).msb = s.msb := by
  rcases o with ⟨f, d, c⟩ | ⟨_ | _, r, m⟩ | y
  · cases d <;> rfl
  · cases r <;> cases m <;> rfl
  · cases r <;> cases m <;> rfl
  · rcases branchResult_cases y s with ⟨_, h⟩ | ⟨_, h⟩ <;> simp [opResult, h]

theorem opResult_lsb (o : Op) (s : State) : (opResult o s).lsb = s.lsb := by
  rcases o with ⟨f, d, c⟩ | ⟨_ | _, r, m⟩ | y
  · cases d <;> rfl
  · cases r <;> cases m <;> rfl
  · cases r <;> cases m <;> rfl
  · rcases branchResult_cases y s with ⟨_, h⟩ | ⟨_, h⟩ <;> simp [opResult, h]

/-! ### The fetch and the step -/

/-- What the read side of fetch can find (R73, R74, R77). -/
theorem fetchInstr_cases (s : State) :
    (s.pcx = true ∧ fetchInstr s = .outOfBounds 0x10000#17) ∨
    (s.pcx = false ∧ s.pc.toNat + trailingCount (s.byteAt s.pc) > 0xFFFF ∧
      fetchInstr s = .outOfBounds (s.pc.setWidth 17)) ∨
    (s.pcx = false ∧ s.pc.toNat + trailingCount (s.byteAt s.pc) ≤ 0xFFFF ∧
      ∃ i rest, decode (bytesFrom s.mem s.pc.toNat (1 + trailingCount (s.byteAt s.pc))) = .ok (i, rest) ∧
        fetchInstr s = .instr i) ∨
    (s.pcx = false ∧ s.pc.toNat + trailingCount (s.byteAt s.pc) ≤ 0xFFFF ∧
      ∃ e, decode (bytesFrom s.mem s.pc.toNat (1 + trailingCount (s.byteAt s.pc))) = .error e ∧
        fetchInstr s = .unclassified (s.byteAt s.pc)) := by
  unfold fetchInstr
  cases s.pcx
  · by_cases hb : s.pc.toNat + trailingCount (s.byteAt s.pc) > 0xFFFF
    · exact .inr (.inl ⟨rfl, hb, by simp [hb]⟩)
    · have hb' := Nat.not_lt.mp hb
      cases hd : decode (bytesFrom s.mem s.pc.toNat (1 + trailingCount (s.byteAt s.pc))) with
      | ok d => exact .inr (.inr (.inl ⟨rfl, hb', d.1, d.2, rfl, by simp [hb]⟩))
      | error e => exact .inr (.inr (.inr ⟨rfl, hb', e, rfl, by simp [hb]⟩))
  · exact .inl ⟨rfl, by simp⟩

/-- What a step can do (R131, R133). -/
theorem step_cases (s : State) :
    (s.err ≠ .none ∧ step s = .fault .coreStopped) ∨
    (s.err = .none ∧ ∃ i, fetchInstr s = .instr i ∧ step s = exec i s) ∨
    (s.err = .none ∧ ∃ code, fetchInstr s = .unclassified code ∧ step s = .next (s.fetched code [])) ∨
    (s.err = .none ∧ ∃ info, fetchInstr s = .outOfBounds info ∧ step s = .next (s.raise .outOfBounds info)) := by
  unfold step
  cases he : s.err
  · cases hf : fetchInstr s with
    | instr i => exact .inr (.inl ⟨rfl, i, rfl, rfl⟩)
    | unclassified code => exact .inr (.inr (.inl ⟨rfl, code, rfl, rfl⟩))
    | outOfBounds info => exact .inr (.inr (.inr ⟨rfl, info, rfl, rfl⟩))
  · exact .inl ⟨by simp, rfl⟩
  · exact .inl ⟨by simp, rfl⟩

/-- A property that every step keeps holds in every state a run reaches. -/
theorem reaches_induction {P : State → Prop} (hstep : ∀ s t, P s → step s = .next t → P t) {s t : State} (hs : P s)
    (h : Reaches s t) : P t := by
  induction h with
  | start => exact hs
  | step _ e ih => exact hstep _ _ ih e

end Sys2Proof.Machine
end

