-- ==== Sys2Proof/Laws/PerInstr.lean ====
section
/-! SUPPORT. A family of facts about each instruction as syntax: the length of its encoding is the one its opcode byte alone gives (R60). -/

namespace Sys2Proof.Laws.EncodedLength

/-- The encoding of a well-formed instruction is its opcode and exactly `trailing_byte_count(opcode)` bytes (R46, R60). -/
def Statement (i : Instr) : Prop :=
  i.wellFormed = true →
    (encode i).head? = some i.opcode ∧ (encode i).length = 1 + trailingCount i.opcode ∧ i.length = (encode i).length

/-- Both counts are the number of bytes of the groups. -/
theorem of_counts {i : Instr} (code : Byte) (n : Nat) (ho : i.opcode = code) (h : trailingCount code = n)
    (h' : (groupBytes i.groups).length = n) : Statement i := by
  intro _
  subst ho
  refine ⟨rfl, ?_, ?_⟩
  · rw [h, ← h']
    simp [encode, encodeWith, Nat.add_comm]
  · simp [Instr.length, encode, encodeWith, Nat.add_comm]

/-- Every branch opcode has 2 trailing bytes (R59). -/
theorem trailingCount_branch (b : BitVec 4) (t : BitVec 3) (h : branchBitsOk b = true) :
    trailingCount (branchOpcode b t) = 2 := by
  revert b t
  decide

/-- A branch: an opcode of the form `0xxxxttt` and one 2-byte group. -/
theorem of_branch {i : Instr} (b : BitVec 4) (target : Word) (t : BitVec 3) (ho : i.opcode = branchOpcode b t)
    (hg : i.groups = [.word target]) (hw : i.wellFormed = branchBitsOk b) : Statement i := by
  intro h
  rw [hw] at h
  refine ⟨rfl, ?_, ?_⟩
  · rw [ho, trailingCount_branch b t h]
    simp [encode, encodeWith, hg]
  · simp [Instr.length, encode, encodeWith, hg]

theorem andIndInd : Statement (.andIndInd) := of_counts 0x80#8 0 rfl rfl rfl

theorem andIndAcc : Statement (.andIndAcc) := of_counts 0x81#8 0 rfl rfl rfl

theorem andIndImm (imm : Word) : Statement (.andIndImm imm) := of_counts 0x82#8 2 rfl rfl rfl

theorem andIndAbs (src : Word) : Statement (.andIndAbs src) := of_counts 0x83#8 2 rfl rfl rfl

theorem andAccInd : Statement (.andAccInd) := of_counts 0x84#8 0 rfl rfl rfl

theorem andAccAcc : Statement (.andAccAcc) := of_counts 0x85#8 0 rfl rfl rfl

theorem andAccImm (imm : Byte) : Statement (.andAccImm imm) := of_counts 0x86#8 1 rfl rfl rfl

theorem andAccAbs (src : Word) : Statement (.andAccAbs src) := of_counts 0x87#8 2 rfl rfl rfl

theorem andMarInd : Statement (.andMarInd) := of_counts 0x88#8 0 rfl rfl rfl

theorem andMarAcc : Statement (.andMarAcc) := of_counts 0x89#8 0 rfl rfl rfl

theorem andMarImm (imm : Word) : Statement (.andMarImm imm) := of_counts 0x8A#8 2 rfl rfl rfl

theorem andMarAbs (src : Word) : Statement (.andMarAbs src) := of_counts 0x8B#8 2 rfl rfl rfl

theorem andAbsInd (dst : Word) : Statement (.andAbsInd dst) := of_counts 0x8C#8 2 rfl rfl rfl

theorem andAbsAcc (dst : Word) : Statement (.andAbsAcc dst) := of_counts 0x8D#8 2 rfl rfl rfl

theorem andAbsImm (dst : Word) (imm : Word) : Statement (.andAbsImm dst imm) := of_counts 0x8E#8 4 rfl rfl rfl

theorem andAbsAbs (dst : Word) (src : Word) : Statement (.andAbsAbs dst src) := of_counts 0x8F#8 4 rfl rfl rfl

theorem orIndInd : Statement (.orIndInd) := of_counts 0x90#8 0 rfl rfl rfl

theorem orIndAcc : Statement (.orIndAcc) := of_counts 0x91#8 0 rfl rfl rfl

theorem orIndImm (imm : Word) : Statement (.orIndImm imm) := of_counts 0x92#8 2 rfl rfl rfl

theorem orIndAbs (src : Word) : Statement (.orIndAbs src) := of_counts 0x93#8 2 rfl rfl rfl

theorem orAccInd : Statement (.orAccInd) := of_counts 0x94#8 0 rfl rfl rfl

theorem orAccAcc : Statement (.orAccAcc) := of_counts 0x95#8 0 rfl rfl rfl

theorem orAccImm (imm : Byte) : Statement (.orAccImm imm) := of_counts 0x96#8 1 rfl rfl rfl

theorem orAccAbs (src : Word) : Statement (.orAccAbs src) := of_counts 0x97#8 2 rfl rfl rfl

theorem orMarInd : Statement (.orMarInd) := of_counts 0x98#8 0 rfl rfl rfl

theorem orMarAcc : Statement (.orMarAcc) := of_counts 0x99#8 0 rfl rfl rfl

theorem orMarImm (imm : Word) : Statement (.orMarImm imm) := of_counts 0x9A#8 2 rfl rfl rfl

theorem orMarAbs (src : Word) : Statement (.orMarAbs src) := of_counts 0x9B#8 2 rfl rfl rfl

theorem orAbsInd (dst : Word) : Statement (.orAbsInd dst) := of_counts 0x9C#8 2 rfl rfl rfl

theorem orAbsAcc (dst : Word) : Statement (.orAbsAcc dst) := of_counts 0x9D#8 2 rfl rfl rfl

theorem orAbsImm (dst : Word) (imm : Word) : Statement (.orAbsImm dst imm) := of_counts 0x9E#8 4 rfl rfl rfl

theorem orAbsAbs (dst : Word) (src : Word) : Statement (.orAbsAbs dst src) := of_counts 0x9F#8 4 rfl rfl rfl

theorem xorIndInd : Statement (.xorIndInd) := of_counts 0xA0#8 0 rfl rfl rfl

theorem xorIndAcc : Statement (.xorIndAcc) := of_counts 0xA1#8 0 rfl rfl rfl

theorem xorIndImm (imm : Word) : Statement (.xorIndImm imm) := of_counts 0xA2#8 2 rfl rfl rfl

theorem xorIndAbs (src : Word) : Statement (.xorIndAbs src) := of_counts 0xA3#8 2 rfl rfl rfl

theorem xorAccInd : Statement (.xorAccInd) := of_counts 0xA4#8 0 rfl rfl rfl

theorem xorAccAcc : Statement (.xorAccAcc) := of_counts 0xA5#8 0 rfl rfl rfl

theorem xorAccImm (imm : Byte) : Statement (.xorAccImm imm) := of_counts 0xA6#8 1 rfl rfl rfl

theorem xorAccAbs (src : Word) : Statement (.xorAccAbs src) := of_counts 0xA7#8 2 rfl rfl rfl

theorem xorMarInd : Statement (.xorMarInd) := of_counts 0xA8#8 0 rfl rfl rfl

theorem xorMarAcc : Statement (.xorMarAcc) := of_counts 0xA9#8 0 rfl rfl rfl

theorem xorMarImm (imm : Word) : Statement (.xorMarImm imm) := of_counts 0xAA#8 2 rfl rfl rfl

theorem xorMarAbs (src : Word) : Statement (.xorMarAbs src) := of_counts 0xAB#8 2 rfl rfl rfl

theorem xorAbsInd (dst : Word) : Statement (.xorAbsInd dst) := of_counts 0xAC#8 2 rfl rfl rfl

theorem xorAbsAcc (dst : Word) : Statement (.xorAbsAcc dst) := of_counts 0xAD#8 2 rfl rfl rfl

theorem xorAbsImm (dst : Word) (imm : Word) : Statement (.xorAbsImm dst imm) := of_counts 0xAE#8 4 rfl rfl rfl

theorem xorAbsAbs (dst : Word) (src : Word) : Statement (.xorAbsAbs dst src) := of_counts 0xAF#8 4 rfl rfl rfl

theorem addIndInd : Statement (.addIndInd) := of_counts 0xB0#8 0 rfl rfl rfl

theorem addIndAcc : Statement (.addIndAcc) := of_counts 0xB1#8 0 rfl rfl rfl

theorem addIndImm (imm : Word) : Statement (.addIndImm imm) := of_counts 0xB2#8 2 rfl rfl rfl

theorem addIndAbs (src : Word) : Statement (.addIndAbs src) := of_counts 0xB3#8 2 rfl rfl rfl

theorem addAccInd : Statement (.addAccInd) := of_counts 0xB4#8 0 rfl rfl rfl

theorem addAccAcc : Statement (.addAccAcc) := of_counts 0xB5#8 0 rfl rfl rfl

theorem addAccImm (imm : Byte) : Statement (.addAccImm imm) := of_counts 0xB6#8 1 rfl rfl rfl

theorem addAccAbs (src : Word) : Statement (.addAccAbs src) := of_counts 0xB7#8 2 rfl rfl rfl

theorem addMarInd : Statement (.addMarInd) := of_counts 0xB8#8 0 rfl rfl rfl

theorem addMarAcc : Statement (.addMarAcc) := of_counts 0xB9#8 0 rfl rfl rfl

theorem addMarImm (imm : Word) : Statement (.addMarImm imm) := of_counts 0xBA#8 2 rfl rfl rfl

theorem addMarAbs (src : Word) : Statement (.addMarAbs src) := of_counts 0xBB#8 2 rfl rfl rfl

theorem addAbsInd (dst : Word) : Statement (.addAbsInd dst) := of_counts 0xBC#8 2 rfl rfl rfl

theorem addAbsAcc (dst : Word) : Statement (.addAbsAcc dst) := of_counts 0xBD#8 2 rfl rfl rfl

theorem addAbsImm (dst : Word) (imm : Word) : Statement (.addAbsImm dst imm) := of_counts 0xBE#8 4 rfl rfl rfl

theorem addAbsAbs (dst : Word) (src : Word) : Statement (.addAbsAbs dst src) := of_counts 0xBF#8 4 rfl rfl rfl

theorem subIndInd : Statement (.subIndInd) := of_counts 0xC0#8 0 rfl rfl rfl

theorem subIndAcc : Statement (.subIndAcc) := of_counts 0xC1#8 0 rfl rfl rfl

theorem subIndImm (imm : Word) : Statement (.subIndImm imm) := of_counts 0xC2#8 2 rfl rfl rfl

theorem subIndAbs (src : Word) : Statement (.subIndAbs src) := of_counts 0xC3#8 2 rfl rfl rfl

theorem subAccInd : Statement (.subAccInd) := of_counts 0xC4#8 0 rfl rfl rfl

theorem subAccAcc : Statement (.subAccAcc) := of_counts 0xC5#8 0 rfl rfl rfl

theorem subAccImm (imm : Byte) : Statement (.subAccImm imm) := of_counts 0xC6#8 1 rfl rfl rfl

theorem subAccAbs (src : Word) : Statement (.subAccAbs src) := of_counts 0xC7#8 2 rfl rfl rfl

theorem subMarInd : Statement (.subMarInd) := of_counts 0xC8#8 0 rfl rfl rfl

theorem subMarAcc : Statement (.subMarAcc) := of_counts 0xC9#8 0 rfl rfl rfl

theorem subMarImm (imm : Word) : Statement (.subMarImm imm) := of_counts 0xCA#8 2 rfl rfl rfl

theorem subMarAbs (src : Word) : Statement (.subMarAbs src) := of_counts 0xCB#8 2 rfl rfl rfl

theorem subAbsInd (dst : Word) : Statement (.subAbsInd dst) := of_counts 0xCC#8 2 rfl rfl rfl

theorem subAbsAcc (dst : Word) : Statement (.subAbsAcc dst) := of_counts 0xCD#8 2 rfl rfl rfl

theorem subAbsImm (dst : Word) (imm : Word) : Statement (.subAbsImm dst imm) := of_counts 0xCE#8 4 rfl rfl rfl

theorem subAbsAbs (dst : Word) (src : Word) : Statement (.subAbsAbs dst src) := of_counts 0xCF#8 4 rfl rfl rfl

theorem incIndInd : Statement (.incIndInd) := of_counts 0xD0#8 0 rfl rfl rfl

theorem incIndAcc : Statement (.incIndAcc) := of_counts 0xD1#8 0 rfl rfl rfl

theorem incIndImm (imm : Word) : Statement (.incIndImm imm) := of_counts 0xD2#8 2 rfl rfl rfl

theorem incIndAbs (src : Word) : Statement (.incIndAbs src) := of_counts 0xD3#8 2 rfl rfl rfl

theorem incAccInd : Statement (.incAccInd) := of_counts 0xD4#8 0 rfl rfl rfl

theorem incAccAcc : Statement (.incAccAcc) := of_counts 0xD5#8 0 rfl rfl rfl

theorem incAccImm (imm : Byte) : Statement (.incAccImm imm) := of_counts 0xD6#8 1 rfl rfl rfl

theorem incAccAbs (src : Word) : Statement (.incAccAbs src) := of_counts 0xD7#8 2 rfl rfl rfl

theorem incMarInd : Statement (.incMarInd) := of_counts 0xD8#8 0 rfl rfl rfl

theorem incMarAcc : Statement (.incMarAcc) := of_counts 0xD9#8 0 rfl rfl rfl

theorem incMarImm (imm : Word) : Statement (.incMarImm imm) := of_counts 0xDA#8 2 rfl rfl rfl

theorem incMarAbs (src : Word) : Statement (.incMarAbs src) := of_counts 0xDB#8 2 rfl rfl rfl

theorem incAbsInd (dst : Word) : Statement (.incAbsInd dst) := of_counts 0xDC#8 2 rfl rfl rfl

theorem incAbsAcc (dst : Word) : Statement (.incAbsAcc dst) := of_counts 0xDD#8 2 rfl rfl rfl

theorem incAbsImm (dst : Word) (imm : Word) : Statement (.incAbsImm dst imm) := of_counts 0xDE#8 4 rfl rfl rfl

theorem incAbsAbs (dst : Word) (src : Word) : Statement (.incAbsAbs dst src) := of_counts 0xDF#8 4 rfl rfl rfl

theorem decIndInd : Statement (.decIndInd) := of_counts 0xE0#8 0 rfl rfl rfl

theorem decIndAcc : Statement (.decIndAcc) := of_counts 0xE1#8 0 rfl rfl rfl

theorem decIndImm (imm : Word) : Statement (.decIndImm imm) := of_counts 0xE2#8 2 rfl rfl rfl

theorem decIndAbs (src : Word) : Statement (.decIndAbs src) := of_counts 0xE3#8 2 rfl rfl rfl

theorem decAccInd : Statement (.decAccInd) := of_counts 0xE4#8 0 rfl rfl rfl

theorem decAccAcc : Statement (.decAccAcc) := of_counts 0xE5#8 0 rfl rfl rfl

theorem decAccImm (imm : Byte) : Statement (.decAccImm imm) := of_counts 0xE6#8 1 rfl rfl rfl

theorem decAccAbs (src : Word) : Statement (.decAccAbs src) := of_counts 0xE7#8 2 rfl rfl rfl

theorem decMarInd : Statement (.decMarInd) := of_counts 0xE8#8 0 rfl rfl rfl

theorem decMarAcc : Statement (.decMarAcc) := of_counts 0xE9#8 0 rfl rfl rfl

theorem decMarImm (imm : Word) : Statement (.decMarImm imm) := of_counts 0xEA#8 2 rfl rfl rfl

theorem decMarAbs (src : Word) : Statement (.decMarAbs src) := of_counts 0xEB#8 2 rfl rfl rfl

theorem decAbsInd (dst : Word) : Statement (.decAbsInd dst) := of_counts 0xEC#8 2 rfl rfl rfl

theorem decAbsAcc (dst : Word) : Statement (.decAbsAcc dst) := of_counts 0xED#8 2 rfl rfl rfl

theorem decAbsImm (dst : Word) (imm : Word) : Statement (.decAbsImm dst imm) := of_counts 0xEE#8 4 rfl rfl rfl

theorem decAbsAbs (dst : Word) (src : Word) : Statement (.decAbsAbs dst src) := of_counts 0xEF#8 4 rfl rfl rfl

theorem notIndInd : Statement (.notIndInd) := of_counts 0xF0#8 0 rfl rfl rfl

theorem notIndAcc : Statement (.notIndAcc) := of_counts 0xF1#8 0 rfl rfl rfl

theorem notIndImm (imm : Word) : Statement (.notIndImm imm) := of_counts 0xF2#8 2 rfl rfl rfl

theorem notIndAbs (src : Word) : Statement (.notIndAbs src) := of_counts 0xF3#8 2 rfl rfl rfl

theorem notAccInd : Statement (.notAccInd) := of_counts 0xF4#8 0 rfl rfl rfl

theorem notAccAcc : Statement (.notAccAcc) := of_counts 0xF5#8 0 rfl rfl rfl

theorem notAccImm (imm : Byte) : Statement (.notAccImm imm) := of_counts 0xF6#8 1 rfl rfl rfl

theorem notAccAbs (src : Word) : Statement (.notAccAbs src) := of_counts 0xF7#8 2 rfl rfl rfl

theorem notMarInd : Statement (.notMarInd) := of_counts 0xF8#8 0 rfl rfl rfl

theorem notMarAcc : Statement (.notMarAcc) := of_counts 0xF9#8 0 rfl rfl rfl

theorem notMarImm (imm : Word) : Statement (.notMarImm imm) := of_counts 0xFA#8 2 rfl rfl rfl

theorem notMarAbs (src : Word) : Statement (.notMarAbs src) := of_counts 0xFB#8 2 rfl rfl rfl

theorem notAbsInd (dst : Word) : Statement (.notAbsInd dst) := of_counts 0xFC#8 2 rfl rfl rfl

theorem notAbsAcc (dst : Word) : Statement (.notAbsAcc dst) := of_counts 0xFD#8 2 rfl rfl rfl

theorem notAbsImm (dst : Word) (imm : Word) : Statement (.notAbsImm dst imm) := of_counts 0xFE#8 4 rfl rfl rfl

theorem notAbsAbs (dst : Word) (src : Word) : Statement (.notAbsAbs dst src) := of_counts 0xFF#8 4 rfl rfl rfl

theorem storeAccAbs (addr : Word) : Statement (.storeAccAbs addr) := of_counts 0x00#8 2 rfl rfl rfl

theorem storeAccImm (imm : Byte) : Statement (.storeAccImm imm) := of_counts 0x01#8 1 rfl rfl rfl

theorem storeAccInd : Statement (.storeAccInd) := of_counts 0x02#8 0 rfl rfl rfl

theorem storeAccMethod3 : Statement (.storeAccMethod3) := of_counts 0x03#8 0 rfl rfl rfl

theorem storeMarAbs (addr : Word) : Statement (.storeMarAbs addr) := of_counts 0x04#8 2 rfl rfl rfl

theorem storeMarImm (imm : Word) : Statement (.storeMarImm imm) := of_counts 0x05#8 2 rfl rfl rfl

theorem storeMarInd : Statement (.storeMarInd) := of_counts 0x06#8 0 rfl rfl rfl

theorem storeMarMethod3 : Statement (.storeMarMethod3) := of_counts 0x07#8 0 rfl rfl rfl

theorem loadAccAbs (addr : Word) : Statement (.loadAccAbs addr) := of_counts 0x08#8 2 rfl rfl rfl

theorem loadAccImm (imm : Byte) : Statement (.loadAccImm imm) := of_counts 0x09#8 1 rfl rfl rfl

theorem loadAccInd : Statement (.loadAccInd) := of_counts 0x0A#8 0 rfl rfl rfl

theorem loadAccMethod3 : Statement (.loadAccMethod3) := of_counts 0x0B#8 0 rfl rfl rfl

theorem loadMarAbs (addr : Word) : Statement (.loadMarAbs addr) := of_counts 0x0C#8 2 rfl rfl rfl

theorem loadMarImm (imm : Word) : Statement (.loadMarImm imm) := of_counts 0x0D#8 2 rfl rfl rfl

theorem loadMarInd : Statement (.loadMarInd) := of_counts 0x0E#8 0 rfl rfl rfl

theorem loadMarMethod3 : Statement (.loadMarMethod3) := of_counts 0x0F#8 0 rfl rfl rfl

theorem bra (b : BitVec 4) (target : Word) : Statement (.bra b target) := of_branch b target 0b000#3 rfl rfl rfl

theorem brz (b : BitVec 4) (target : Word) : Statement (.brz b target) := of_branch b target 0b001#3 rfl rfl rfl

theorem bnz (b : BitVec 4) (target : Word) : Statement (.bnz b target) := of_branch b target 0b010#3 rfl rfl rfl

theorem blt (b : BitVec 4) (target : Word) : Statement (.blt b target) := of_branch b target 0b011#3 rfl rfl rfl

theorem ble (b : BitVec 4) (target : Word) : Statement (.ble b target) := of_branch b target 0b100#3 rfl rfl rfl

theorem bgt (b : BitVec 4) (target : Word) : Statement (.bgt b target) := of_branch b target 0b101#3 rfl rfl rfl

theorem bge (b : BitVec 4) (target : Word) : Statement (.bge b target) := of_branch b target 0b110#3 rfl rfl rfl

theorem br7 (b : BitVec 4) (target : Word) : Statement (.br7 b target) := of_branch b target 0b111#3 rfl rfl rfl

end Sys2Proof.Laws.EncodedLength
end

