-- ==== Sys2Proof/Tests/Slice0.lean ====
section
/-! SUPPORT. Tests of the model against the encodings of 30_encoding.md and the vectors of 95_test_vectors.md, and for each obligation with
hypotheses a concrete input that meets all of them. A vector's zeros are the vector's own start values. -/

namespace Sys2Proof.Tests

open Sys2Proof.Machine

/-! ### Well-formedness: the one check refuses its two ill-formed values (R47, R56) -/

theorem test_wellFormed_refuses_bits_0000 : (Instr.brz 0b0000#4 0x1234#16).wellFormed = false := by decide

theorem test_wellFormed_refuses_bits_0001 : (Instr.br7 0b0001#4 0x1234#16).wellFormed = false := by decide

theorem test_wellFormed_accepts_bits_0010 : (Instr.bra 0b0010#4 0x1234#16).wellFormed = true := by decide

/-! ### Decoding: words written bit by bit from R49 to R59. Every constructor has one. -/

theorem test_decode_and_ind_acc :
    decode [0b1_000_00_00#8] = .ok (.andIndInd, []) ∧
    decode [0b1_000_00_01#8] = .ok (.andIndAcc, []) ∧
    decode [0b1_000_00_10#8, 0x56#8, 0x78#8] = .ok (.andIndImm 0x5678#16, []) ∧
    decode [0b1_000_00_11#8, 0x9A#8, 0xBC#8] = .ok (.andIndAbs 0x9ABC#16, []) ∧
    decode [0b1_000_01_00#8] = .ok (.andAccInd, []) ∧
    decode [0b1_000_01_01#8] = .ok (.andAccAcc, []) ∧
    decode [0b1_000_01_10#8, 0x5A#8] = .ok (.andAccImm 0x5A#8, []) ∧
    decode [0b1_000_01_11#8, 0x9A#8, 0xBC#8] = .ok (.andAccAbs 0x9ABC#16, []) := by
  decide

theorem test_decode_and_mar_abs :
    decode [0b1_000_10_00#8] = .ok (.andMarInd, []) ∧
    decode [0b1_000_10_01#8] = .ok (.andMarAcc, []) ∧
    decode [0b1_000_10_10#8, 0x56#8, 0x78#8] = .ok (.andMarImm 0x5678#16, []) ∧
    decode [0b1_000_10_11#8, 0x9A#8, 0xBC#8] = .ok (.andMarAbs 0x9ABC#16, []) ∧
    decode [0b1_000_11_00#8, 0x12#8, 0x34#8] = .ok (.andAbsInd 0x1234#16, []) ∧
    decode [0b1_000_11_01#8, 0x12#8, 0x34#8] = .ok (.andAbsAcc 0x1234#16, []) ∧
    decode [0b1_000_11_10#8, 0x12#8, 0x34#8, 0x56#8, 0x78#8] = .ok (.andAbsImm 0x1234#16 0x5678#16, []) ∧
    decode [0b1_000_11_11#8, 0x12#8, 0x34#8, 0x9A#8, 0xBC#8] = .ok (.andAbsAbs 0x1234#16 0x9ABC#16, []) := by
  decide

theorem test_decode_or_ind_acc :
    decode [0b1_001_00_00#8] = .ok (.orIndInd, []) ∧
    decode [0b1_001_00_01#8] = .ok (.orIndAcc, []) ∧
    decode [0b1_001_00_10#8, 0x56#8, 0x78#8] = .ok (.orIndImm 0x5678#16, []) ∧
    decode [0b1_001_00_11#8, 0x9A#8, 0xBC#8] = .ok (.orIndAbs 0x9ABC#16, []) ∧
    decode [0b1_001_01_00#8] = .ok (.orAccInd, []) ∧
    decode [0b1_001_01_01#8] = .ok (.orAccAcc, []) ∧
    decode [0b1_001_01_10#8, 0x5A#8] = .ok (.orAccImm 0x5A#8, []) ∧
    decode [0b1_001_01_11#8, 0x9A#8, 0xBC#8] = .ok (.orAccAbs 0x9ABC#16, []) := by
  decide

theorem test_decode_or_mar_abs :
    decode [0b1_001_10_00#8] = .ok (.orMarInd, []) ∧
    decode [0b1_001_10_01#8] = .ok (.orMarAcc, []) ∧
    decode [0b1_001_10_10#8, 0x56#8, 0x78#8] = .ok (.orMarImm 0x5678#16, []) ∧
    decode [0b1_001_10_11#8, 0x9A#8, 0xBC#8] = .ok (.orMarAbs 0x9ABC#16, []) ∧
    decode [0b1_001_11_00#8, 0x12#8, 0x34#8] = .ok (.orAbsInd 0x1234#16, []) ∧
    decode [0b1_001_11_01#8, 0x12#8, 0x34#8] = .ok (.orAbsAcc 0x1234#16, []) ∧
    decode [0b1_001_11_10#8, 0x12#8, 0x34#8, 0x56#8, 0x78#8] = .ok (.orAbsImm 0x1234#16 0x5678#16, []) ∧
    decode [0b1_001_11_11#8, 0x12#8, 0x34#8, 0x9A#8, 0xBC#8] = .ok (.orAbsAbs 0x1234#16 0x9ABC#16, []) := by
  decide

theorem test_decode_xor_ind_acc :
    decode [0b1_010_00_00#8] = .ok (.xorIndInd, []) ∧
    decode [0b1_010_00_01#8] = .ok (.xorIndAcc, []) ∧
    decode [0b1_010_00_10#8, 0x56#8, 0x78#8] = .ok (.xorIndImm 0x5678#16, []) ∧
    decode [0b1_010_00_11#8, 0x9A#8, 0xBC#8] = .ok (.xorIndAbs 0x9ABC#16, []) ∧
    decode [0b1_010_01_00#8] = .ok (.xorAccInd, []) ∧
    decode [0b1_010_01_01#8] = .ok (.xorAccAcc, []) ∧
    decode [0b1_010_01_10#8, 0x5A#8] = .ok (.xorAccImm 0x5A#8, []) ∧
    decode [0b1_010_01_11#8, 0x9A#8, 0xBC#8] = .ok (.xorAccAbs 0x9ABC#16, []) := by
  decide

theorem test_decode_xor_mar_abs :
    decode [0b1_010_10_00#8] = .ok (.xorMarInd, []) ∧
    decode [0b1_010_10_01#8] = .ok (.xorMarAcc, []) ∧
    decode [0b1_010_10_10#8, 0x56#8, 0x78#8] = .ok (.xorMarImm 0x5678#16, []) ∧
    decode [0b1_010_10_11#8, 0x9A#8, 0xBC#8] = .ok (.xorMarAbs 0x9ABC#16, []) ∧
    decode [0b1_010_11_00#8, 0x12#8, 0x34#8] = .ok (.xorAbsInd 0x1234#16, []) ∧
    decode [0b1_010_11_01#8, 0x12#8, 0x34#8] = .ok (.xorAbsAcc 0x1234#16, []) ∧
    decode [0b1_010_11_10#8, 0x12#8, 0x34#8, 0x56#8, 0x78#8] = .ok (.xorAbsImm 0x1234#16 0x5678#16, []) ∧
    decode [0b1_010_11_11#8, 0x12#8, 0x34#8, 0x9A#8, 0xBC#8] = .ok (.xorAbsAbs 0x1234#16 0x9ABC#16, []) := by
  decide

theorem test_decode_add_ind_acc :
    decode [0b1_011_00_00#8] = .ok (.addIndInd, []) ∧
    decode [0b1_011_00_01#8] = .ok (.addIndAcc, []) ∧
    decode [0b1_011_00_10#8, 0x56#8, 0x78#8] = .ok (.addIndImm 0x5678#16, []) ∧
    decode [0b1_011_00_11#8, 0x9A#8, 0xBC#8] = .ok (.addIndAbs 0x9ABC#16, []) ∧
    decode [0b1_011_01_00#8] = .ok (.addAccInd, []) ∧
    decode [0b1_011_01_01#8] = .ok (.addAccAcc, []) ∧
    decode [0b1_011_01_10#8, 0x5A#8] = .ok (.addAccImm 0x5A#8, []) ∧
    decode [0b1_011_01_11#8, 0x9A#8, 0xBC#8] = .ok (.addAccAbs 0x9ABC#16, []) := by
  decide

theorem test_decode_add_mar_abs :
    decode [0b1_011_10_00#8] = .ok (.addMarInd, []) ∧
    decode [0b1_011_10_01#8] = .ok (.addMarAcc, []) ∧
    decode [0b1_011_10_10#8, 0x56#8, 0x78#8] = .ok (.addMarImm 0x5678#16, []) ∧
    decode [0b1_011_10_11#8, 0x9A#8, 0xBC#8] = .ok (.addMarAbs 0x9ABC#16, []) ∧
    decode [0b1_011_11_00#8, 0x12#8, 0x34#8] = .ok (.addAbsInd 0x1234#16, []) ∧
    decode [0b1_011_11_01#8, 0x12#8, 0x34#8] = .ok (.addAbsAcc 0x1234#16, []) ∧
    decode [0b1_011_11_10#8, 0x12#8, 0x34#8, 0x56#8, 0x78#8] = .ok (.addAbsImm 0x1234#16 0x5678#16, []) ∧
    decode [0b1_011_11_11#8, 0x12#8, 0x34#8, 0x9A#8, 0xBC#8] = .ok (.addAbsAbs 0x1234#16 0x9ABC#16, []) := by
  decide

theorem test_decode_sub_ind_acc :
    decode [0b1_100_00_00#8] = .ok (.subIndInd, []) ∧
    decode [0b1_100_00_01#8] = .ok (.subIndAcc, []) ∧
    decode [0b1_100_00_10#8, 0x56#8, 0x78#8] = .ok (.subIndImm 0x5678#16, []) ∧
    decode [0b1_100_00_11#8, 0x9A#8, 0xBC#8] = .ok (.subIndAbs 0x9ABC#16, []) ∧
    decode [0b1_100_01_00#8] = .ok (.subAccInd, []) ∧
    decode [0b1_100_01_01#8] = .ok (.subAccAcc, []) ∧
    decode [0b1_100_01_10#8, 0x5A#8] = .ok (.subAccImm 0x5A#8, []) ∧
    decode [0b1_100_01_11#8, 0x9A#8, 0xBC#8] = .ok (.subAccAbs 0x9ABC#16, []) := by
  decide

theorem test_decode_sub_mar_abs :
    decode [0b1_100_10_00#8] = .ok (.subMarInd, []) ∧
    decode [0b1_100_10_01#8] = .ok (.subMarAcc, []) ∧
    decode [0b1_100_10_10#8, 0x56#8, 0x78#8] = .ok (.subMarImm 0x5678#16, []) ∧
    decode [0b1_100_10_11#8, 0x9A#8, 0xBC#8] = .ok (.subMarAbs 0x9ABC#16, []) ∧
    decode [0b1_100_11_00#8, 0x12#8, 0x34#8] = .ok (.subAbsInd 0x1234#16, []) ∧
    decode [0b1_100_11_01#8, 0x12#8, 0x34#8] = .ok (.subAbsAcc 0x1234#16, []) ∧
    decode [0b1_100_11_10#8, 0x12#8, 0x34#8, 0x56#8, 0x78#8] = .ok (.subAbsImm 0x1234#16 0x5678#16, []) ∧
    decode [0b1_100_11_11#8, 0x12#8, 0x34#8, 0x9A#8, 0xBC#8] = .ok (.subAbsAbs 0x1234#16 0x9ABC#16, []) := by
  decide

theorem test_decode_inc_ind_acc :
    decode [0b1_101_00_00#8] = .ok (.incIndInd, []) ∧
    decode [0b1_101_00_01#8] = .ok (.incIndAcc, []) ∧
    decode [0b1_101_00_10#8, 0x56#8, 0x78#8] = .ok (.incIndImm 0x5678#16, []) ∧
    decode [0b1_101_00_11#8, 0x9A#8, 0xBC#8] = .ok (.incIndAbs 0x9ABC#16, []) ∧
    decode [0b1_101_01_00#8] = .ok (.incAccInd, []) ∧
    decode [0b1_101_01_01#8] = .ok (.incAccAcc, []) ∧
    decode [0b1_101_01_10#8, 0x5A#8] = .ok (.incAccImm 0x5A#8, []) ∧
    decode [0b1_101_01_11#8, 0x9A#8, 0xBC#8] = .ok (.incAccAbs 0x9ABC#16, []) := by
  decide

theorem test_decode_inc_mar_abs :
    decode [0b1_101_10_00#8] = .ok (.incMarInd, []) ∧
    decode [0b1_101_10_01#8] = .ok (.incMarAcc, []) ∧
    decode [0b1_101_10_10#8, 0x56#8, 0x78#8] = .ok (.incMarImm 0x5678#16, []) ∧
    decode [0b1_101_10_11#8, 0x9A#8, 0xBC#8] = .ok (.incMarAbs 0x9ABC#16, []) ∧
    decode [0b1_101_11_00#8, 0x12#8, 0x34#8] = .ok (.incAbsInd 0x1234#16, []) ∧
    decode [0b1_101_11_01#8, 0x12#8, 0x34#8] = .ok (.incAbsAcc 0x1234#16, []) ∧
    decode [0b1_101_11_10#8, 0x12#8, 0x34#8, 0x56#8, 0x78#8] = .ok (.incAbsImm 0x1234#16 0x5678#16, []) ∧
    decode [0b1_101_11_11#8, 0x12#8, 0x34#8, 0x9A#8, 0xBC#8] = .ok (.incAbsAbs 0x1234#16 0x9ABC#16, []) := by
  decide

theorem test_decode_dec_ind_acc :
    decode [0b1_110_00_00#8] = .ok (.decIndInd, []) ∧
    decode [0b1_110_00_01#8] = .ok (.decIndAcc, []) ∧
    decode [0b1_110_00_10#8, 0x56#8, 0x78#8] = .ok (.decIndImm 0x5678#16, []) ∧
    decode [0b1_110_00_11#8, 0x9A#8, 0xBC#8] = .ok (.decIndAbs 0x9ABC#16, []) ∧
    decode [0b1_110_01_00#8] = .ok (.decAccInd, []) ∧
    decode [0b1_110_01_01#8] = .ok (.decAccAcc, []) ∧
    decode [0b1_110_01_10#8, 0x5A#8] = .ok (.decAccImm 0x5A#8, []) ∧
    decode [0b1_110_01_11#8, 0x9A#8, 0xBC#8] = .ok (.decAccAbs 0x9ABC#16, []) := by
  decide

theorem test_decode_dec_mar_abs :
    decode [0b1_110_10_00#8] = .ok (.decMarInd, []) ∧
    decode [0b1_110_10_01#8] = .ok (.decMarAcc, []) ∧
    decode [0b1_110_10_10#8, 0x56#8, 0x78#8] = .ok (.decMarImm 0x5678#16, []) ∧
    decode [0b1_110_10_11#8, 0x9A#8, 0xBC#8] = .ok (.decMarAbs 0x9ABC#16, []) ∧
    decode [0b1_110_11_00#8, 0x12#8, 0x34#8] = .ok (.decAbsInd 0x1234#16, []) ∧
    decode [0b1_110_11_01#8, 0x12#8, 0x34#8] = .ok (.decAbsAcc 0x1234#16, []) ∧
    decode [0b1_110_11_10#8, 0x12#8, 0x34#8, 0x56#8, 0x78#8] = .ok (.decAbsImm 0x1234#16 0x5678#16, []) ∧
    decode [0b1_110_11_11#8, 0x12#8, 0x34#8, 0x9A#8, 0xBC#8] = .ok (.decAbsAbs 0x1234#16 0x9ABC#16, []) := by
  decide

theorem test_decode_not_ind_acc :
    decode [0b1_111_00_00#8] = .ok (.notIndInd, []) ∧
    decode [0b1_111_00_01#8] = .ok (.notIndAcc, []) ∧
    decode [0b1_111_00_10#8, 0x56#8, 0x78#8] = .ok (.notIndImm 0x5678#16, []) ∧
    decode [0b1_111_00_11#8, 0x9A#8, 0xBC#8] = .ok (.notIndAbs 0x9ABC#16, []) ∧
    decode [0b1_111_01_00#8] = .ok (.notAccInd, []) ∧
    decode [0b1_111_01_01#8] = .ok (.notAccAcc, []) ∧
    decode [0b1_111_01_10#8, 0x5A#8] = .ok (.notAccImm 0x5A#8, []) ∧
    decode [0b1_111_01_11#8, 0x9A#8, 0xBC#8] = .ok (.notAccAbs 0x9ABC#16, []) := by
  decide

theorem test_decode_not_mar_abs :
    decode [0b1_111_10_00#8] = .ok (.notMarInd, []) ∧
    decode [0b1_111_10_01#8] = .ok (.notMarAcc, []) ∧
    decode [0b1_111_10_10#8, 0x56#8, 0x78#8] = .ok (.notMarImm 0x5678#16, []) ∧
    decode [0b1_111_10_11#8, 0x9A#8, 0xBC#8] = .ok (.notMarAbs 0x9ABC#16, []) ∧
    decode [0b1_111_11_00#8, 0x12#8, 0x34#8] = .ok (.notAbsInd 0x1234#16, []) ∧
    decode [0b1_111_11_01#8, 0x12#8, 0x34#8] = .ok (.notAbsAcc 0x1234#16, []) ∧
    decode [0b1_111_11_10#8, 0x12#8, 0x34#8, 0x56#8, 0x78#8] = .ok (.notAbsImm 0x1234#16 0x5678#16, []) ∧
    decode [0b1_111_11_11#8, 0x12#8, 0x34#8, 0x9A#8, 0xBC#8] = .ok (.notAbsAbs 0x1234#16 0x9ABC#16, []) := by
  decide

theorem test_decode_store :
    decode [0b0000_0_0_00#8, 0x12#8, 0x34#8] = .ok (.storeAccAbs 0x1234#16, []) ∧
    decode [0b0000_0_0_01#8, 0x5A#8] = .ok (.storeAccImm 0x5A#8, []) ∧
    decode [0b0000_0_0_10#8] = .ok (.storeAccInd, []) ∧
    decode [0b0000_0_0_11#8] = .ok (.storeAccMethod3, []) ∧
    decode [0b0000_0_1_00#8, 0x12#8, 0x34#8] = .ok (.storeMarAbs 0x1234#16, []) ∧
    decode [0b0000_0_1_01#8, 0x56#8, 0x78#8] = .ok (.storeMarImm 0x5678#16, []) ∧
    decode [0b0000_0_1_10#8] = .ok (.storeMarInd, []) ∧
    decode [0b0000_0_1_11#8] = .ok (.storeMarMethod3, []) := by
  decide

theorem test_decode_load :
    decode [0b0000_1_0_00#8, 0x12#8, 0x34#8] = .ok (.loadAccAbs 0x1234#16, []) ∧
    decode [0b0000_1_0_01#8, 0x5A#8] = .ok (.loadAccImm 0x5A#8, []) ∧
    decode [0b0000_1_0_10#8] = .ok (.loadAccInd, []) ∧
    decode [0b0000_1_0_11#8] = .ok (.loadAccMethod3, []) ∧
    decode [0b0000_1_1_00#8, 0x12#8, 0x34#8] = .ok (.loadMarAbs 0x1234#16, []) ∧
    decode [0b0000_1_1_01#8, 0x56#8, 0x78#8] = .ok (.loadMarImm 0x5678#16, []) ∧
    decode [0b0000_1_1_10#8] = .ok (.loadMarInd, []) ∧
    decode [0b0000_1_1_11#8] = .ok (.loadMarMethod3, []) := by
  decide

theorem test_decode_br :
    decode [0b0_0010_000#8, 0x12#8, 0x34#8] = .ok (.bra 0b0010#4 0x1234#16, []) ∧
    decode [0b0_0010_001#8, 0x12#8, 0x34#8] = .ok (.brz 0b0010#4 0x1234#16, []) ∧
    decode [0b0_0010_010#8, 0x12#8, 0x34#8] = .ok (.bnz 0b0010#4 0x1234#16, []) ∧
    decode [0b0_0010_011#8, 0x12#8, 0x34#8] = .ok (.blt 0b0010#4 0x1234#16, []) ∧
    decode [0b0_0010_100#8, 0x12#8, 0x34#8] = .ok (.ble 0b0010#4 0x1234#16, []) ∧
    decode [0b0_0010_101#8, 0x12#8, 0x34#8] = .ok (.bgt 0b0010#4 0x1234#16, []) ∧
    decode [0b0_0010_110#8, 0x12#8, 0x34#8] = .ok (.bge 0b0010#4 0x1234#16, []) ∧
    decode [0b0_0010_111#8, 0x12#8, 0x34#8] = .ok (.br7 0b0010#4 0x1234#16, []) := by
  decide

/-- Rejection by name: an empty string of bytes, and an instruction cut short (R77 bounds what fetch hands over). -/
theorem test_decode_rejects :
    decode [] = .error .noOpcode ∧ decode [0b1_011_11_10#8, 0x30#8, 0x00#8, 0x40#8] = .error (.truncated 0xBE#8) := by
  decide

/-- The bytes of R32 and A35: groups in order, most significant byte first. -/
theorem test_encode_two_groups :
    encode (.addAbsImm 0x3000#16 0x4002#16) = [0xBE#8, 0x30#8, 0x00#8, 0x40#8, 0x02#8] := by decide

/-- The table numbers bits from the first byte: 0xB7, then 0x10, then 0x01 (W3). -/
theorem test_decodeTableWord_w3 : decodeTableWord 24 0x0110B7 = some (.addAccAbs 0x1001#16) := by decide

/-- A row given no operand bits has operand bytes of zeros. -/
theorem test_decodeTableWord_opcode_only : decodeTableWord 8 0xBE = some (.addAbsImm 0x0000#16 0x0000#16) := by decide

/-- The placed word is the first instruction a step runs. -/
theorem test_withFetchWord_runs_first :
    step (State.reset.withFetchWord 24 0x34120D) = exec (.loadMarImm 0x1234#16) (State.reset.withFetchWord 24 0x34120D) := by
  rfl

/-! ### One step against the vectors -/

/-- Cells set one after the other. -/
def setCells (m : Memory) : List (Word × Byte) → Memory
  | [] => m
  | c :: cs => setCells (Memory.writeByte m c.1 c.2) cs

/-- A vector's start state. -/
def start (p : Word) (bytes : List Byte) (acc : Byte) (mar : Word) (cells : List (Word × Byte)) : State :=
  let s := placeAtPc { State.reset with pc := p } bytes
  { s with acc := acc, mar := mar, mem := setCells s.mem cells }

/-- One step ends with these values, and with no cell changed but those listed. -/
def endsWith (s : State) (acc : Byte) (mar pc : Word) (pcx : Bool) (err : Err) (info : ErrInfo)
    (cells : List (Word × Byte)) : Bool :=
  match step s with
  | .next t =>
    decide (t.acc = acc) && decide (t.mar = mar) && decide (t.pc = pc) && decide (t.pcx = pcx) &&
      decide (t.err = err) && decide (t.errInfo = info) && decide (t.mem = setCells s.mem cells)
  | .fault _ => false
  | .refused _ => false

/-- A1: AND ACC, #0x0F. -/
theorem test_A1 :
    endsWith (start 0x0100#16 [0x86#8, 0x0F#8] 0xF5#8 0x0000#16 [])
      0x05#8 0x0000#16 0x0102#16 false .none 0x0#17 [] = true := by
  decide

/-- A2: OR ACC, #0x0F. -/
theorem test_A2 :
    endsWith (start 0x0100#16 [0x96#8, 0x0F#8] 0xF0#8 0x0000#16 [])
      0xFF#8 0x0000#16 0x0102#16 false .none 0x0#17 [] = true := by
  decide

/-- A3: XOR ACC, #0xFF. -/
theorem test_A3 :
    endsWith (start 0x0100#16 [0xA6#8, 0xFF#8] 0xFF#8 0x0000#16 [])
      0x00#8 0x0000#16 0x0102#16 false .none 0x0#17 [] = true := by
  decide

/-- A4: ADD ACC, #0x01. -/
theorem test_A4 :
    endsWith (start 0x0100#16 [0xB6#8, 0x01#8] 0xFF#8 0x0000#16 [])
      0x00#8 0x0000#16 0x0102#16 false .none 0x0#17 [] = true := by
  decide

/-- A5: ADD ACC, #0x01. -/
theorem test_A5 :
    endsWith (start 0x0100#16 [0xB6#8, 0x01#8] 0x7F#8 0x0000#16 [])
      0x80#8 0x0000#16 0x0102#16 false .none 0x0#17 [] = true := by
  decide

/-- A6: SUB ACC, #0x03. -/
theorem test_A6 :
    endsWith (start 0x0100#16 [0xC6#8, 0x03#8] 0x05#8 0x0000#16 [])
      0x02#8 0x0000#16 0x0102#16 false .none 0x0#17 [] = true := by
  decide

/-- A7: SUB ACC, #0x01. -/
theorem test_A7 :
    endsWith (start 0x0100#16 [0xC6#8, 0x01#8] 0x00#8 0x0000#16 [])
      0xFF#8 0x0000#16 0x0102#16 false .none 0x0#17 [] = true := by
  decide

/-- A9: INC ACC, #0x55. -/
theorem test_A9 :
    endsWith (start 0x0100#16 [0xD6#8, 0x55#8] 0xFF#8 0x0000#16 [])
      0x00#8 0x0000#16 0x0102#16 false .none 0x0#17 [] = true := by
  decide

/-- A10: DEC ACC, #0x55. -/
theorem test_A10 :
    endsWith (start 0x0100#16 [0xE6#8, 0x55#8] 0x00#8 0x0000#16 [])
      0xFF#8 0x0000#16 0x0102#16 false .none 0x0#17 [] = true := by
  decide

/-- A11: NOT ACC, #0x55. -/
theorem test_A11 :
    endsWith (start 0x0100#16 [0xF6#8, 0x55#8] 0x5A#8 0x0000#16 [])
      0xA5#8 0x0000#16 0x0102#16 false .none 0x0#17 [] = true := by
  decide

/-- A12: AND MAR, #0x00FF. -/
theorem test_A12 :
    endsWith (start 0x0100#16 [0x8A#8, 0x00#8, 0xFF#8] 0x00#8 0x1234#16 [])
      0x00#8 0x0034#16 0x0103#16 false .none 0x0#17 [] = true := by
  decide

/-- A13: OR MAR, #0x0034. -/
theorem test_A13 :
    endsWith (start 0x0100#16 [0x9A#8, 0x00#8, 0x34#8] 0x00#8 0x1200#16 [])
      0x00#8 0x1234#16 0x0103#16 false .none 0x0#17 [] = true := by
  decide

/-- A14: XOR MAR, #0x1234. -/
theorem test_A14 :
    endsWith (start 0x0100#16 [0xAA#8, 0x12#8, 0x34#8] 0x00#8 0xFFFF#16 [])
      0x00#8 0xEDCB#16 0x0103#16 false .none 0x0#17 [] = true := by
  decide

/-- A15: ADD MAR, #0x0001. -/
theorem test_A15 :
    endsWith (start 0x0100#16 [0xBA#8, 0x00#8, 0x01#8] 0x00#8 0xFFFF#16 [])
      0x00#8 0x0000#16 0x0103#16 false .none 0x0#17 [] = true := by
  decide

/-- A16: ADD MAR, #0x0001. -/
theorem test_A16 :
    endsWith (start 0x0100#16 [0xBA#8, 0x00#8, 0x01#8] 0x00#8 0x00FF#16 [])
      0x00#8 0x0100#16 0x0103#16 false .none 0x0#17 [] = true := by
  decide

/-- A17: SUB MAR, #0x0001. -/
theorem test_A17 :
    endsWith (start 0x0100#16 [0xCA#8, 0x00#8, 0x01#8] 0x00#8 0x0000#16 [])
      0x00#8 0xFFFF#16 0x0103#16 false .none 0x0#17 [] = true := by
  decide

/-- A18: SUB MAR, #0x0100. -/
theorem test_A18 :
    endsWith (start 0x0100#16 [0xCA#8, 0x01#8, 0x00#8] 0x00#8 0x1234#16 [])
      0x00#8 0x1134#16 0x0103#16 false .none 0x0#17 [] = true := by
  decide

/-- A19: INC MAR, #0x0000. -/
theorem test_A19 :
    endsWith (start 0x0100#16 [0xDA#8, 0x00#8, 0x00#8] 0x00#8 0x00FF#16 [])
      0x00#8 0x0100#16 0x0103#16 false .none 0x0#17 [] = true := by
  decide

/-- A20: DEC MAR, #0x0000. -/
theorem test_A20 :
    endsWith (start 0x0100#16 [0xEA#8, 0x00#8, 0x00#8] 0x00#8 0x0100#16 [])
      0x00#8 0x00FF#16 0x0103#16 false .none 0x0#17 [] = true := by
  decide

/-- A21: NOT MAR, #0x0000. -/
theorem test_A21 :
    endsWith (start 0x0100#16 [0xFA#8, 0x00#8, 0x00#8] 0x00#8 0x0F0F#16 [])
      0x00#8 0xF0F0#16 0x0103#16 false .none 0x0#17 [] = true := by
  decide

/-- A22: ADD [MAR], [MAR] (w=16). -/
theorem test_A22 :
    endsWith (start 0x0100#16 [0xB0#8] 0x00#8 0x3000#16 [(0x3000#16, 0x12#8), (0x3001#16, 0x34#8)])
      0x00#8 0x3000#16 0x0101#16 false .none 0x0#17 [(0x3000#16, 0x24#8), (0x3001#16, 0x68#8)] = true := by
  decide

/-- A23: ADD [MAR], ACC (w=8). -/
theorem test_A23 :
    endsWith (start 0x0100#16 [0xB1#8] 0x05#8 0x3000#16 [(0x3000#16, 0x10#8), (0x3001#16, 0x99#8)])
      0x05#8 0x3000#16 0x0101#16 false .none 0x0#17 [(0x3000#16, 0x15#8)] = true := by
  decide

/-- A24: ADD [MAR], #0x0102 (w=16). -/
theorem test_A24 :
    endsWith (start 0x0100#16 [0xB2#8, 0x01#8, 0x02#8] 0x00#8 0x3000#16 [(0x3000#16, 0x10#8), (0x3001#16, 0x20#8)])
      0x00#8 0x3000#16 0x0103#16 false .none 0x0#17 [(0x3000#16, 0x11#8), (0x3001#16, 0x22#8)] = true := by
  decide

/-- A25: ADD [MAR], [0x4000] (w=16). -/
theorem test_A25 :
    endsWith (start 0x0100#16 [0xB3#8, 0x40#8, 0x00#8] 0x00#8 0x3000#16 [(0x3000#16, 0x10#8), (0x3001#16, 0x20#8), (0x4000#16, 0x01#8), (0x4001#16, 0x02#8)])
      0x00#8 0x3000#16 0x0103#16 false .none 0x0#17 [(0x3000#16, 0x11#8), (0x3001#16, 0x22#8)] = true := by
  decide

/-- A26: ADD ACC, [MAR] (w=8). -/
theorem test_A26 :
    endsWith (start 0x0100#16 [0xB4#8] 0x05#8 0x3000#16 [(0x3000#16, 0xFE#8)])
      0x03#8 0x3000#16 0x0101#16 false .none 0x0#17 [] = true := by
  decide

/-- A27: ADD ACC, ACC (w=8). -/
theorem test_A27 :
    endsWith (start 0x0100#16 [0xB5#8] 0x81#8 0x0000#16 [])
      0x02#8 0x0000#16 0x0101#16 false .none 0x0#17 [] = true := by
  decide

/-- A28: ADD ACC, [0x4000] (w=8). -/
theorem test_A28 :
    endsWith (start 0x0100#16 [0xB7#8, 0x40#8, 0x00#8] 0x01#8 0x0000#16 [(0x4000#16, 0x02#8)])
      0x03#8 0x0000#16 0x0103#16 false .none 0x0#17 [] = true := by
  decide

/-- A29: ADD MAR, [MAR] (w=16). -/
theorem test_A29 :
    endsWith (start 0x0100#16 [0xB8#8] 0x00#8 0x3000#16 [(0x3000#16, 0x00#8), (0x3001#16, 0x05#8)])
      0x00#8 0x3005#16 0x0101#16 false .none 0x0#17 [] = true := by
  decide

/-- A30: ADD MAR, ACC (w=8, rule R89). -/
theorem test_A30 :
    endsWith (start 0x0100#16 [0xB9#8] 0x01#8 0x12FF#16 [])
      0x01#8 0x0000#16 0x0101#16 false .none 0x0#17 [] = true := by
  decide

/-- A31: OR MAR, ACC (w=8, rule R89). -/
theorem test_A31 :
    endsWith (start 0x0100#16 [0x99#8] 0x34#8 0x12FF#16 [])
      0x34#8 0x00FF#16 0x0101#16 false .none 0x0#17 [] = true := by
  decide

/-- A32: ADD MAR, [0x4000] (w=16). -/
theorem test_A32 :
    endsWith (start 0x0100#16 [0xBB#8, 0x40#8, 0x00#8] 0x00#8 0x0001#16 [(0x4000#16, 0xFF#8), (0x4001#16, 0xFF#8)])
      0x00#8 0x0000#16 0x0103#16 false .none 0x0#17 [] = true := by
  decide

/-- A33: ADD [0x4000], [MAR] (w=16). -/
theorem test_A33 :
    endsWith (start 0x0100#16 [0xBC#8, 0x40#8, 0x00#8] 0x00#8 0x3000#16 [(0x3000#16, 0x00#8), (0x3001#16, 0x01#8), (0x4000#16, 0x00#8), (0x4001#16, 0x02#8)])
      0x00#8 0x3000#16 0x0103#16 false .none 0x0#17 [(0x4001#16, 0x03#8)] = true := by
  decide

/-- A34: ADD [0x4000], ACC (w=8). -/
theorem test_A34 :
    endsWith (start 0x0100#16 [0xBD#8, 0x40#8, 0x00#8] 0x03#8 0x0000#16 [(0x4000#16, 0x04#8), (0x4001#16, 0x77#8)])
      0x03#8 0x0000#16 0x0103#16 false .none 0x0#17 [(0x4000#16, 0x07#8)] = true := by
  decide

/-- A35: ADD [0x3000], #0x4002 (two groups, rule R90). -/
theorem test_A35 :
    endsWith (start 0x0100#16 [0xBE#8, 0x30#8, 0x00#8, 0x40#8, 0x02#8] 0x00#8 0x0000#16 [(0x3000#16, 0x11#8), (0x3001#16, 0x11#8), (0x4002#16, 0x10#8), (0x4003#16, 0x20#8)])
      0x00#8 0x0000#16 0x0105#16 false .none 0x0#17 [(0x4002#16, 0x50#8), (0x4003#16, 0x22#8)] = true := by
  decide

/-- A36: ADD [0x3000], [0x4000] (two groups, rule R90). -/
theorem test_A36 :
    endsWith (start 0x0100#16 [0xBF#8, 0x30#8, 0x00#8, 0x40#8, 0x00#8] 0x00#8 0x0000#16 [(0x3000#16, 0x11#8), (0x3001#16, 0x11#8), (0x4000#16, 0x01#8), (0x4001#16, 0x02#8)])
      0x00#8 0x0000#16 0x0105#16 false .none 0x0#17 [(0x4000#16, 0x02#8), (0x4001#16, 0x04#8)] = true := by
  decide

/-- A37: SUB [0x3000], [0x4000] (two groups: op1 = op2). -/
theorem test_A37 :
    endsWith (start 0x0100#16 [0xCF#8, 0x30#8, 0x00#8, 0x40#8, 0x00#8] 0x00#8 0x0000#16 [(0x4000#16, 0x12#8), (0x4001#16, 0x34#8)])
      0x00#8 0x0000#16 0x0105#16 false .none 0x0#17 [(0x4000#16, 0x00#8), (0x4001#16, 0x00#8)] = true := by
  decide

/-- A38: ADD [MAR], [MAR] at MAR = 0xFFFF (word wrap, D5). -/
theorem test_A38 :
    endsWith (start 0x0100#16 [0xB0#8] 0x00#8 0xFFFF#16 [(0xFFFF#16, 0x01#8), (0x0000#16, 0x02#8)])
      0x00#8 0xFFFF#16 0x0101#16 false .none 0x0#17 [(0x0000#16, 0x04#8), (0xFFFF#16, 0x02#8)] = true := by
  decide

/-- A39: INC [MAR], [MAR] (w=16). -/
theorem test_A39 :
    endsWith (start 0x0100#16 [0xD0#8] 0x00#8 0x3000#16 [(0x3000#16, 0x00#8), (0x3001#16, 0xFF#8)])
      0x00#8 0x3000#16 0x0101#16 false .none 0x0#17 [(0x3000#16, 0x01#8), (0x3001#16, 0x00#8)] = true := by
  decide

/-- A40: DEC MAR, [MAR] (w=16). -/
theorem test_A40 :
    endsWith (start 0x0100#16 [0xE8#8] 0x00#8 0x0000#16 [(0x0000#16, 0x00#8), (0x0001#16, 0x00#8)])
      0x00#8 0xFFFF#16 0x0101#16 false .none 0x0#17 [] = true := by
  decide

/-- A41: NOT ACC, ACC; NOP is AND ACC, ACC. -/
theorem test_A41 :
    endsWith (start 0x0100#16 [0xF5#8] 0x0F#8 0x0000#16 [])
      0xF0#8 0x0000#16 0x0101#16 false .none 0x0#17 [] = true := by
  decide

/-- A42: NOP = AND ACC, ACC. -/
theorem test_A42 :
    endsWith (start 0x0100#16 [0x85#8] 0x3C#8 0x1234#16 [])
      0x3C#8 0x1234#16 0x0101#16 false .none 0x0#17 [] = true := by
  decide

/-- A43: XOR [0x4000], ACC (w=8). -/
theorem test_A43 :
    endsWith (start 0x0100#16 [0xAD#8, 0x40#8, 0x00#8] 0xFF#8 0x0000#16 [(0x4000#16, 0x0F#8)])
      0xFF#8 0x0000#16 0x0103#16 false .none 0x0#17 [(0x4000#16, 0xF0#8)] = true := by
  decide

/-- M1: STORE ACC, [0x2000]. -/
theorem test_M1 :
    endsWith (start 0x0100#16 [0x00#8, 0x20#8, 0x00#8] 0xAB#8 0x0000#16 [])
      0xAB#8 0x0000#16 0x0103#16 false .none 0x0#17 [(0x2000#16, 0xAB#8)] = true := by
  decide

/-- M2: .byte 0x01, 0x77 (STORE ACC, #imm). -/
theorem test_M2 :
    endsWith (start 0x0100#16 [0x01#8, 0x77#8] 0x10#8 0x0000#16 [])
      0x10#8 0x0000#16 0x0102#16 false .unresolvedAddress 0x01#17 [] = true := by
  decide

/-- M3: STORE ACC, [MAR]. -/
theorem test_M3 :
    endsWith (start 0x0100#16 [0x02#8] 0xCD#8 0x2001#16 [])
      0xCD#8 0x2001#16 0x0101#16 false .none 0x0#17 [(0x2001#16, 0xCD#8)] = true := by
  decide

/-- M4: .byte 0x03 (STORE ACC, method 3). -/
theorem test_M4 :
    endsWith (start 0x0100#16 [0x03#8] 0x10#8 0x0000#16 [])
      0x10#8 0x0000#16 0x0101#16 false .unresolvedAddress 0x03#17 [] = true := by
  decide

/-- M5: STORE MAR, [0x2000]. -/
theorem test_M5 :
    endsWith (start 0x0100#16 [0x04#8, 0x20#8, 0x00#8] 0x00#8 0x1234#16 [])
      0x00#8 0x1234#16 0x0103#16 false .none 0x0#17 [(0x2000#16, 0x12#8), (0x2001#16, 0x34#8)] = true := by
  decide

/-- M6: .byte 0x05, 0x12, 0x34 (STORE MAR, #imm). -/
theorem test_M6 :
    endsWith (start 0x0100#16 [0x05#8, 0x12#8, 0x34#8] 0x00#8 0x1234#16 [])
      0x00#8 0x1234#16 0x0103#16 false .unresolvedAddress 0x05#17 [] = true := by
  decide

/-- M7: STORE MAR, [MAR]. -/
theorem test_M7 :
    endsWith (start 0x0100#16 [0x06#8] 0x00#8 0x2000#16 [(0x2000#16, 0xFF#8), (0x2001#16, 0xFF#8)])
      0x00#8 0x2000#16 0x0101#16 false .none 0x0#17 [(0x2000#16, 0x20#8), (0x2001#16, 0x00#8)] = true := by
  decide

/-- M8: .byte 0x07 (STORE MAR, method 3). -/
theorem test_M8 :
    endsWith (start 0x0100#16 [0x07#8] 0x00#8 0x2000#16 [])
      0x00#8 0x2000#16 0x0101#16 false .unresolvedAddress 0x07#17 [] = true := by
  decide

/-- M11: LOAD ACC, [MAR]. -/
theorem test_M11 :
    endsWith (start 0x0100#16 [0x0A#8] 0x00#8 0x2000#16 [(0x2000#16, 0x9C#8)])
      0x9C#8 0x2000#16 0x0101#16 false .none 0x0#17 [] = true := by
  decide

/-- M12: .byte 0x0B (LOAD ACC, method 3). -/
theorem test_M12 :
    endsWith (start 0x0100#16 [0x0B#8] 0x10#8 0x0000#16 [])
      0x10#8 0x0000#16 0x0101#16 false .unresolvedAddress 0x0B#17 [] = true := by
  decide

/-- M13: LOAD MAR, [0x2000]. -/
theorem test_M13 :
    endsWith (start 0x0100#16 [0x0C#8, 0x20#8, 0x00#8] 0x00#8 0x0000#16 [(0x2000#16, 0xBE#8), (0x2001#16, 0xEF#8)])
      0x00#8 0xBEEF#16 0x0103#16 false .none 0x0#17 [] = true := by
  decide

/-- M14: LOAD MAR, #0x1234. -/
theorem test_M14 :
    endsWith (start 0x0100#16 [0x0D#8, 0x12#8, 0x34#8] 0x00#8 0x0000#16 [])
      0x00#8 0x1234#16 0x0103#16 false .none 0x0#17 [] = true := by
  decide

/-- M15: LOAD MAR, [MAR]. -/
theorem test_M15 :
    endsWith (start 0x0100#16 [0x0E#8] 0x00#8 0x2000#16 [(0x2000#16, 0x30#8), (0x2001#16, 0x00#8)])
      0x00#8 0x3000#16 0x0101#16 false .none 0x0#17 [] = true := by
  decide

/-- M16: .byte 0x0F (LOAD MAR, method 3). -/
theorem test_M16 :
    endsWith (start 0x0100#16 [0x0F#8] 0x00#8 0x2000#16 [])
      0x00#8 0x2000#16 0x0101#16 false .unresolvedAddress 0x0F#17 [] = true := by
  decide

/-- M17: STORE MAR, [MAR] at MAR = 0xFFFF (word wrap, D5). -/
theorem test_M17 :
    endsWith (start 0x0100#16 [0x06#8] 0x00#8 0xFFFF#16 [])
      0x00#8 0xFFFF#16 0x0101#16 false .none 0x0#17 [(0x0000#16, 0xFF#8), (0xFFFF#16, 0xFF#8)] = true := by
  decide

/-- M18: LOAD MAR, [0xFFFF] with the program at 0x0000 (word wrap reads the opcode byte). -/
theorem test_M18 :
    endsWith (start 0x0000#16 [0x0C#8, 0xFF#8, 0xFF#8] 0x00#8 0x0000#16 [(0xFFFF#16, 0xAB#8)])
      0x00#8 0xAB0C#16 0x0003#16 false .none 0x0#17 [] = true := by
  decide

/-- M19: LOAD ACC, #0x80 (no sign extension; MAR untouched). -/
theorem test_M19 :
    endsWith (start 0x0100#16 [0x09#8, 0x80#8] 0x00#8 0xBEEF#16 [])
      0x80#8 0xBEEF#16 0x0102#16 false .none 0x0#17 [] = true := by
  decide

/-- M20: STORE ACC, [0x0101] writes its own second byte. -/
theorem test_M20 :
    endsWith (start 0x0100#16 [0x00#8, 0x01#8, 0x01#8] 0xEE#8 0x0000#16 [])
      0xEE#8 0x0000#16 0x0103#16 false .none 0x0#17 [(0x0101#16, 0xEE#8)] = true := by
  decide

/-- B1: BRZ alias 0x79 (bits 6:3 = 1111). -/
theorem test_B1 :
    endsWith (start 0x0100#16 [0x79#8, 0x12#8, 0x34#8] 0x00#8 0x0000#16 [])
      0x00#8 0x0000#16 0x1234#16 false .none 0x0#17 [] = true := by
  decide

/-- B4: BR7 alias 0x7F. -/
theorem test_B4 :
    endsWith (start 0x0100#16 [0x7F#8, 0x12#8, 0x34#8] 0x00#8 0x0000#16 [])
      0x00#8 0x0000#16 0x0103#16 false .none 0x0#17 [] = true := by
  decide

/-- B6: BRA 0x0000 from the last 3 bytes of memory (clears PCX). -/
theorem test_B6 :
    endsWith (start 0xFFFD#16 [0x10#8, 0x00#8, 0x00#8] 0x00#8 0x0000#16 [])
      0x00#8 0x0000#16 0x0000#16 false .none 0x0#17 [] = true := by
  decide

/-- B7: BNZ not taken at the end of memory (sets PCX). -/
theorem test_B7 :
    endsWith (start 0xFFFD#16 [0x12#8, 0x00#8, 0x00#8] 0x00#8 0x0000#16 [])
      0x00#8 0x0000#16 0x0000#16 true .none 0x0#17 [] = true := by
  decide

/-- B8: BLT with ACC = 0x80 (−128). -/
theorem test_B8 :
    endsWith (start 0x0100#16 [0x13#8, 0xAB#8, 0xCD#8] 0x80#8 0x0000#16 [])
      0x80#8 0x0000#16 0xABCD#16 false .none 0x0#17 [] = true := by
  decide

/-- B9: BGT with ACC = 0x80 (not taken). -/
theorem test_B9 :
    endsWith (start 0x0100#16 [0x15#8, 0xAB#8, 0xCD#8] 0x80#8 0x0000#16 [])
      0x80#8 0x0000#16 0x0103#16 false .none 0x0#17 [] = true := by
  decide

/-- F1: NOP at 0xFFFF (last byte). -/
theorem test_F1 :
    endsWith (start 0xFFFF#16 [0x85#8] 0x00#8 0x0000#16 [])
      0x00#8 0x0000#16 0x0000#16 true .none 0x0#17 [] = true := by
  decide

/-- F2: LOAD ACC, [a] at 0xFFFE (trailing byte past the end). -/
theorem test_F2 :
    endsWith (start 0xFFFE#16 [0x08#8, 0x12#8] 0x33#8 0x4444#16 [])
      0x33#8 0x4444#16 0xFFFE#16 false .outOfBounds 0xFFFE#17 [] = true := by
  decide

/-- F3: LOAD ACC, [0x1234] at 0xFFFD (ends exactly at 0xFFFF). -/
theorem test_F3 :
    endsWith (start 0xFFFD#16 [0x08#8, 0x12#8, 0x34#8] 0x00#8 0x0000#16 [(0x1234#16, 0x77#8)])
      0x77#8 0x0000#16 0x0000#16 true .none 0x0#17 [] = true := by
  decide

/-- F5: ADD [a], [b] (5 bytes) at 0xFFFB. -/
theorem test_F5 :
    endsWith (start 0xFFFB#16 [0xBF#8, 0x30#8, 0x00#8, 0x40#8, 0x00#8] 0x00#8 0x0000#16 [(0x4000#16, 0x00#8), (0x4001#16, 0x01#8)])
      0x00#8 0x0000#16 0x0000#16 true .none 0x0#17 [(0x4001#16, 0x02#8)] = true := by
  decide

/-- F6: LOAD ACC, #i8 at 0xFFFE. -/
theorem test_F6 :
    endsWith (start 0xFFFE#16 [0x09#8, 0x42#8] 0x00#8 0x0000#16 [])
      0x42#8 0x0000#16 0x0000#16 true .none 0x0#17 [] = true := by
  decide

/-- F7: .byte 0x0B (method 3, 1 byte) at 0xFFFF. -/
theorem test_F7 :
    endsWith (start 0xFFFF#16 [0x0B#8] 0x00#8 0x0000#16 [])
      0x00#8 0x0000#16 0x0000#16 true .unresolvedAddress 0x0B#17 [] = true := by
  decide

/-- PC after `opcode 00 50` at 0x0100 for each ACC of the branch matrix of 95_test_vectors.md. -/
def branchPcs (code : Byte) : List Word :=
  [0x00#8, 0x01#8, 0x7F#8, 0x80#8, 0xFF#8].map fun acc =>
    match step (start 0x0100#16 [code, 0x00#8, 0x50#8] acc 0x0000#16 []) with
    | .next t => t.pc
    | .fault _ => 0xDEAD#16
    | .refused _ => 0xDEAD#16

theorem test_bra_matrix : branchPcs 0x10#8 = [0x0050#16, 0x0050#16, 0x0050#16, 0x0050#16, 0x0050#16] := by decide

theorem test_brz_matrix : branchPcs 0x11#8 = [0x0050#16, 0x0103#16, 0x0103#16, 0x0103#16, 0x0103#16] := by decide

theorem test_bnz_matrix : branchPcs 0x12#8 = [0x0103#16, 0x0050#16, 0x0050#16, 0x0050#16, 0x0050#16] := by decide

theorem test_blt_matrix : branchPcs 0x13#8 = [0x0103#16, 0x0103#16, 0x0103#16, 0x0050#16, 0x0050#16] := by decide

theorem test_ble_matrix : branchPcs 0x14#8 = [0x0050#16, 0x0103#16, 0x0103#16, 0x0050#16, 0x0050#16] := by decide

theorem test_bgt_matrix : branchPcs 0x15#8 = [0x0103#16, 0x0050#16, 0x0050#16, 0x0103#16, 0x0103#16] := by decide

theorem test_bge_matrix : branchPcs 0x16#8 = [0x0050#16, 0x0050#16, 0x0050#16, 0x0103#16, 0x0103#16] := by decide

theorem test_br7_matrix : branchPcs 0x17#8 = [0x0103#16, 0x0103#16, 0x0103#16, 0x0103#16, 0x0103#16] := by decide

/-! ### Witnesses: for each obligation with hypotheses, an input that meets all of them together -/

/-- One instruction at 0x0100, ACC and MAR as given, nothing else in memory. -/
def at0100 (bytes : List Byte) (acc : Byte) (mar : Word) : State := start 0x0100#16 bytes acc mar []

/-- The next state of a step that answers one. -/
def stepNext (s : State) : State :=
  match step s with
  | .next t => t
  | .fault _ => s
  | .refused _ => s

/-- The next state of an instruction that answers one. -/
def execNext (i : Instr) (s : State) : State :=
  match exec i s with
  | .next t => t
  | .fault _ => s
  | .refused _ => s

/-- A decidable form of "answers this next state". -/
def isNext (r : Result) (t : State) : Bool :=
  match r with
  | .next u => decide (u = t)
  | .fault _ => false
  | .refused _ => false

theorem isNext_iff (r : Result) (t : State) : r = .next t ↔ isNext r t = true := by
  cases r <;> simp [isNext]

theorem witness_DecodeOfEncodeIsIdentity :
    (Instr.brz 0b0010#4 0x0050#16).wellFormed = true ∧ (Instr.br7 0b1111#4 0xFFFF#16).wellFormed = true ∧
      (Instr.addAbsAbs 0x3000#16 0x4000#16).wellFormed = true := by decide

theorem witness_EncodeOfDecodeIsIdentity :
    decodeWith .accIsZero [0x08#8, 0x10#8, 0x00#8, 0xB7#8] = .ok (.loadAccAbs 0x1000#16, [0xB7#8]) ∧
      decodeWith .marIsZero [0x08#8, 0x10#8, 0x00#8, 0xB7#8] = .ok (.loadMarAbs 0x1000#16, [0xB7#8]) := by decide

theorem witness_BranchAliasesDifferOnlyInIr :
    let s := at0100 [] 0x00#8 0x0000#16
    (Instr.brz 0b0010#4 0x0050#16).isBranch ∧ (Instr.brz 0b0010#4 0x0050#16).op = (Instr.brz 0b1111#4 0x0050#16).op ∧
      (Instr.brz 0b0010#4 0x0050#16).groups = (Instr.brz 0b1111#4 0x0050#16).groups ∧
      exec (.brz 0b0010#4 0x0050#16) s = .next (execNext (.brz 0b0010#4 0x0050#16) s) ∧
      exec (.brz 0b1111#4 0x0050#16) s = .next (execNext (.brz 0b1111#4 0x0050#16) s) :=
  ⟨⟨.brz, rfl⟩, rfl, rfl, rfl, rfl⟩

/-- At the last address where a 5-byte instruction fits, 0xFFFB. -/
theorem witness_StepRunsDecodedInstruction :
    let i := Instr.addAbsAbs 0x3000#16 0x4000#16
    let s := start 0xFFFB#16 [0xBF#8, 0x30#8, 0x00#8, 0x40#8, 0x00#8] 0x00#8 0x0000#16 []
    s.err = .none ∧ s.pcx = false ∧ i.wellFormed = true ∧ s.pc.toNat + i.length ≤ 0x10000 ∧
      bytesFrom s.mem s.pc.toNat i.length = encode i := by decide

theorem witness_ErrorStopsTheCore :
    ({ State.reset with err := .outOfBounds } : State).err ≠ .none ∧
      ({ State.reset with err := .unresolvedAddress } : State).err ≠ .none ∧
      step { State.reset with err := .unresolvedAddress } = .fault .coreStopped := ⟨by decide, by decide, rfl⟩

theorem witness_EveryStepWithoutErrorAnswersNext : State.reset.err = .none := by decide

/-- F8 of 95_test_vectors.md, after its first step. -/
theorem witness_FetchWithCarryRaisesOutOfBounds :
    let s := stepNext (start 0xFFFF#16 [0x85#8] 0x00#8 0x0000#16 [])
    s.err = .none ∧ s.pcx = true := by decide

/-- The first address where a 5-byte and where a 3-byte instruction no longer fits (F4, F2). -/
theorem witness_FetchPastTopRaisesOutOfBounds :
    let s := start 0xFFFC#16 [0xBF#8] 0x00#8 0x0000#16 []
    let t := start 0xFFFE#16 [0x08#8] 0x00#8 0x0000#16 []
    (s.err = .none ∧ s.pcx = false ∧ s.pc.toNat + trailingCount (s.byteAt s.pc) > 0xFFFF) ∧
      (t.err = .none ∧ t.pcx = false ∧ t.pc.toNat + trailingCount (t.byteAt t.pc) > 0xFFFF) := by decide

theorem witness_SuccessfulFetchLeavesOpcodeInIr :
    let s := start 0xFFFF#16 [0x85#8] 0x00#8 0x0000#16 []
    s.err = .none ∧ step s = .next (stepNext s) ∧ (stepNext s).err ≠ .outOfBounds := by
  simp only [isNext_iff]
  decide

theorem witness_BranchFetchLatchesTarget :
    let s := start 0xFFFD#16 [0x17#8, 0x12#8, 0x34#8] 0x00#8 0x0000#16 []
    s.err = .none ∧ family (s.byteAt s.pc) = .br ∧ step s = .next (stepNext s) ∧ (stepNext s).err ≠ .outOfBounds := by
  simp only [isNext_iff]
  decide

/-- One input for each of the four trailing-byte counts. -/
theorem witness_FetchLatchesTrailingBytes :
    ∀ bytes ∈ [[0x85#8], [0x86#8, 0x11#8], [0x87#8, 0x11#8, 0x22#8], [0x8F#8, 0x11#8, 0x22#8, 0x33#8, 0x44#8]],
      (at0100 bytes 0x00#8 0x0000#16).err = .none ∧
        step (at0100 bytes 0x00#8 0x0000#16) = .next (stepNext (at0100 bytes 0x00#8 0x0000#16)) ∧
        (stepNext (at0100 bytes 0x00#8 0x0000#16)).err ≠ .outOfBounds := by
  simp only [isNext_iff]
  decide

/-- A taken branch, one not taken that ends at 0xFFFF, and a plain instruction. -/
theorem witness_PcFallsThroughOrTakesTheBranch :
    let s := at0100 [0x11#8, 0x00#8, 0x50#8] 0x00#8 0x0000#16
    let t := start 0xFFFD#16 [0x12#8, 0x00#8, 0x00#8] 0x00#8 0x0000#16 []
    (s.err = .none ∧ step s = .next (stepNext s) ∧ (stepNext s).err ≠ .outOfBounds ∧
      family (s.byteAt s.pc) = .br ∧ branchCond (typeOf (s.byteAt s.pc)) s.acc = true) ∧
    (t.err = .none ∧ step t = .next (stepNext t) ∧ (stepNext t).err ≠ .outOfBounds ∧
      branchCond (typeOf (t.byteAt t.pc)) t.acc = false) := by
  simp only [isNext_iff]
  decide

/-- Each error arises: F4 for the bounds, M2 for the six opcodes. -/
theorem witness_ErrorsHaveOnlyTheirCauses :
    let s := start 0xFFFC#16 [0xBF#8] 0x00#8 0x0000#16 []
    let t := at0100 [0x01#8, 0x77#8] 0x10#8 0x0000#16
    (s.err = .none ∧ step s = .next (stepNext s) ∧ (stepNext s).err = .outOfBounds) ∧
      (t.err = .none ∧ step t = .next (stepNext t) ∧ (stepNext t).err = .unresolvedAddress) := by
  simp only [isNext_iff]
  decide

theorem witness_OutOfBoundsChangesNothingElse :
    let s := start 0xFFFE#16 [0x08#8, 0x12#8] 0x33#8 0x4444#16 []
    s.err = .none ∧ step s = .next (stepNext s) ∧ (stepNext s).err = .outOfBounds := by
  simp only [isNext_iff]
  decide

theorem witness_UnresolvedAddressKeepsAccMarMemory :
    ∀ bytes ∈ [[0x01#8, 0x77#8], [0x03#8], [0x05#8, 0x12#8, 0x34#8], [0x07#8], [0x0B#8], [0x0F#8]],
      (at0100 bytes 0x10#8 0x2000#16).err = .none ∧
        step (at0100 bytes 0x10#8 0x2000#16) = .next (stepNext (at0100 bytes 0x10#8 0x2000#16)) ∧
        (stepNext (at0100 bytes 0x10#8 0x2000#16)).err = .unresolvedAddress := by
  simp only [isNext_iff]
  decide

/-- Forms of 1, 2 and 3 bytes, so that each clause on the latch applies. -/
theorem witness_AluAccFormsFrame :
    let s := at0100 [] 0x05#8 0x3000#16
    (Instr.addAccInd.op = .alu .add .acc .ind ∧ exec .addAccInd s = .next (execNext .addAccInd s)) ∧
    ((Instr.addAccImm 0x01#8).op = .alu .add .acc .imm ∧
      exec (.addAccImm 0x01#8) s = .next (execNext (.addAccImm 0x01#8) s)) ∧
    Instr.addAccInd.length = 1 ∧ (Instr.addAccImm 0x01#8).length = 2 := by
  simp only [isNext_iff]
  decide

theorem witness_AluMarFormsFrame :
    let s := at0100 [] 0x01#8 0x12FF#16
    (Instr.addMarAcc.op = .alu .add .mar .acc ∧ exec .addMarAcc s = .next (execNext .addMarAcc s)) ∧
    ((Instr.addMarImm 0x0001#16).op = .alu .add .mar .imm ∧
      exec (.addMarImm 0x0001#16) s = .next (execNext (.addMarImm 0x0001#16) s)) ∧
    Instr.addMarAcc.length = 1 := by
  simp only [isNext_iff]
  decide

/-- A word at 0xFFFF through MAR, and a two-group form, whose address is its source group. -/
theorem witness_AluMemoryFormsFrame :
    let s := start 0x0100#16 [] 0x00#8 0xFFFF#16 [(0xFFFF#16, 0x01#8), (0x0000#16, 0x02#8)]
    let i := Instr.addAbsImm 0x3000#16 0x4002#16
    (Instr.addIndInd.op = .alu .add .ind .ind ∧ 0xFFFF#16 = (fetchOf .addIndInd s).mar ∧
      exec .addIndInd s = .next (execNext .addIndInd s)) ∧
    (i.op = .alu .add .abs .imm ∧ 0x4002#16 = (fetchOf i s).latch ∧ exec i s = .next (execNext i s)) := by
  simp only [isNext_iff]
  decide

theorem witness_NotTwiceRestoresDestination :
    let s := start 0x0100#16 [] 0x0F#8 0xFFFF#16 [(0xFFFF#16, 0xA5#8)]
    Memory.wf s.mem = true ∧
      (∀ i ∈ [Instr.notAccAcc, Instr.notMarImm 0x0000#16, Instr.notIndInd],
        exec i s = .next (execNext i s) ∧ exec i (execNext i s) = .next (execNext i (execNext i s))) := by
  simp only [isNext_iff]
  decide

theorem witness_TwoGroupFormsIgnoreDestinationAddress :
    (Instr.addAbsImm 0x3000#16 0x4002#16).op = .alu .add .abs .imm ∧
      (Instr.addAbsImm 0x1111#16 0x4002#16).op = .alu .add .abs .imm ∧
      (Instr.addAbsImm 0x3000#16 0x4002#16).groups = [.word 0x3000#16, .word 0x4002#16] ∧
      (Instr.addAbsImm 0x1111#16 0x4002#16).groups = [.word 0x1111#16, .word 0x4002#16] := by decide

theorem witness_LoadFormsFrame :
    let s := start 0x0100#16 [] 0x10#8 0x2000#16 [(0x2000#16, 0x9C#8)]
    (Instr.loadAccInd.op = .mem .load .acc .ind ∧ Method.ind ≠ Method.undef ∧
      exec .loadAccInd s = .next (execNext .loadAccInd s)) ∧
    ((Instr.loadMarImm 0x1234#16).op = .mem .load .mar .imm ∧ Method.imm ≠ Method.undef ∧
      exec (.loadMarImm 0x1234#16) s = .next (execNext (.loadMarImm 0x1234#16) s)) ∧
    ((Instr.loadAccImm 0x7E#8).length ≤ 2 ∧ Instr.loadAccInd.length = 1) := by
  simp only [isNext_iff]
  decide

theorem witness_StoreFormsFrame :
    let s := at0100 [] 0xAB#8 0xFFFF#16
    let i := Instr.storeAccAbs 0x2000#16
    (i.op = .mem .store .acc .abs ∧ 0x2000#16 = placeAddr .absolute (fetchOf i s) ∧ exec i s = .next (execNext i s)) ∧
    (Instr.storeMarInd.op = .mem .store .mar .ind ∧ 0xFFFF#16 = placeAddr .viaMar (fetchOf .storeMarInd s) ∧
      exec .storeMarInd s = .next (execNext .storeMarInd s)) := by
  simp only [isNext_iff]
  decide

/-- The word form at 0xFFFF, with its second byte at 0x0000 (M17). -/
theorem witness_StoredWordReadsBackBigEndian :
    let s := at0100 [] 0xAB#8 0xFFFF#16
    Memory.wf s.mem = true ∧
      ∀ i ∈ [Instr.storeMarAbs 0xFFFF#16, .storeMarInd, .storeAccAbs 0xFFFF#16, .storeAccInd],
        exec i s = .next (execNext i s) := by
  simp only [isNext_iff]
  decide

theorem witness_StoreThenLoadRoundTrips :
    let s := at0100 [] 0xAB#8 0x1234#16
    let t := execNext (.storeAccAbs 0x2000#16) s
    let u := execNext (.storeMarAbs 0xFFFF#16) s
    Memory.wf s.mem = true ∧
      (exec (.storeAccAbs 0x2000#16) s = .next t ∧
        exec (.loadAccAbs 0x2000#16) { t with acc := 0x00#8 } =
          .next (execNext (.loadAccAbs 0x2000#16) { t with acc := 0x00#8 })) ∧
      (exec (.storeMarAbs 0xFFFF#16) s = .next u ∧
        exec (.loadMarAbs 0xFFFF#16) { u with mar := 0x0000#16 } =
          .next (execNext (.loadMarAbs 0xFFFF#16) { u with mar := 0x0000#16 })) := by
  simp only [isNext_iff]
  decide

/-- The third step of P4: the store at 0x0002 writes the opcode at 0x0005. -/
theorem witness_StoreIsSeenByTheNextFetch :
    let s := start 0x0002#16 [0x00#8, 0x00#8, 0x05#8, 0x03#8] 0x85#8 0x0000#16 []
    let t := execNext (.storeAccAbs 0x0005#16) s
    Memory.wf s.mem = true ∧ exec (.storeAccAbs 0x0005#16) s = .next t ∧ t.pc = 0x0005#16 ∧
      step t = .next (stepNext t) ∧ (stepNext t).err ≠ .outOfBounds := by
  simp only [isNext_iff]
  decide

/-- ACC at the sign and zero corners, so that both sides of each condition arise. -/
theorem witness_BranchesCompareSignedAccWithZero :
    ∀ acc ∈ [0x00#8, 0x01#8, 0x7F#8, 0x80#8, 0xFF#8], ∀ i ∈ [Instr.brz 0b0010#4 0x0050#16,
      .bnz 0b0010#4 0x0050#16, .blt 0b0010#4 0x0050#16, .ble 0b0010#4 0x0050#16, .bgt 0b0010#4 0x0050#16,
      .bge 0b0010#4 0x0050#16],
      exec i (at0100 [] acc 0x0000#16) = .next (execNext i (at0100 [] acc 0x0000#16)) := by
  simp only [isNext_iff]
  decide

theorem witness_signs_of_acc :
    (0x00#8).toInt = 0 ∧ (0x01#8).toInt > 0 ∧ (0x7F#8).toInt > 0 ∧ (0x80#8).toInt < 0 ∧ (0xFF#8).toInt < 0 := by decide

theorem witness_BranchFormsFrame :
    let s := at0100 [] 0x00#8 0x0000#16
    (Instr.bra 0b0010#4 0x1234#16).op = .br .bra ∧
      exec (.bra 0b0010#4 0x1234#16) s = .next (execNext (.bra 0b0010#4 0x1234#16) s) := by
  simp only [isNext_iff]
  decide

theorem witness_ErrorFormsFrame :
    let s := at0100 [] 0x10#8 0x2000#16
    ((Instr.storeMarImm 0x1234#16).isErrorForm ∧
      exec (.storeMarImm 0x1234#16) s = .next (execNext (.storeMarImm 0x1234#16) s)) ∧
    (Instr.loadAccMethod3.isErrorForm ∧ exec .loadAccMethod3 s = .next (execNext .loadAccMethod3 s)) :=
  ⟨⟨.inl ⟨.mar, rfl⟩, rfl⟩, ⟨.inr ⟨.load, .acc, rfl⟩, rfl⟩⟩

/-- Instructions that do change ACC and MAR. -/
theorem witness_OnlyDestinationsChangeAccAndMar :
    let s := at0100 [] 0x10#8 0x2000#16
    (exec (.loadAccImm 0x7E#8) s = .next (execNext (.loadAccImm 0x7E#8) s) ∧
      (execNext (.loadAccImm 0x7E#8) s).acc ≠ s.acc) ∧
    (exec (.loadMarImm 0x1234#16) s = .next (execNext (.loadMarImm 0x1234#16) s) ∧
      (execNext (.loadMarImm 0x1234#16) s).mar ≠ s.mar) := by
  simp only [isNext_iff]
  decide

/-- A state with a nonempty memory. -/
theorem witness_StepKeepsInvariant :
    let s := start 0xFFFF#16 [0x85#8] 0x3C#8 0x1234#16 [(0x2000#16, 0x5A#8)]
    s.Inv ∧ step s = .next (stepNext s) ∧ (stepNext s).pcx = true :=
  ⟨⟨by decide, by decide, by decide, by decide, by decide⟩, rfl, by decide⟩

theorem witness_LaunchSatisfiesInvariant : Memory.wf [(0x1000, 0x01#8), (0xFFFF, 0x02#8)] = true := by decide

/-- States that differ in IR, MSB and LSB before an instruction without trailing bytes. -/
theorem witness_LatchAndIrDoNotAffectAStep :
    let s := at0100 [0xB4#8] 0x05#8 0x3000#16
    let t := { s with ir := 0xFF#8, msb := 0x12#8, lsb := 0x34#8 }
    SameButLatch s t ∧ s ≠ t ∧ step s = .next (stepNext s) :=
  ⟨⟨rfl, rfl, rfl, rfl, rfl, rfl, rfl⟩, by decide, rfl⟩

/-- The instruction at 0x0100 writes 0x2000 alone, so 0x2001 is not listed. -/
theorem witness_StepWritesOnlyListedCells :
    let s := at0100 [0x00#8, 0x20#8, 0x00#8] 0xAB#8 0x0000#16
    step s = .next (stepNext s) ∧ Access.write 0x2001#16 ∉ stepAccesses s ∧
      Access.write 0x2000#16 ∈ stepAccesses s := by
  simp only [isNext_iff]
  decide

/-- Memories that differ at 0x4000, which ADD ACC, ACC neither fetches nor reads. -/
theorem witness_StepDependsOnlyOnListedCells :
    let s := at0100 [0xB5#8] 0x81#8 0x0000#16
    let t := start 0x0100#16 [0xB5#8] 0x81#8 0x0000#16 [(0x4000#16, 0x01#8)]
    SameRegisters s t ∧ s ≠ t ∧ Memory.wf s.mem = true ∧ Memory.wf t.mem = true ∧
      (∀ a, Access.fetch a ∈ stepAccesses s ∨ Access.read a ∈ stepAccesses s → s.byteAt a = t.byteAt a) ∧
      step s = .next (stepNext s) := by
  refine ⟨⟨rfl, rfl, rfl, rfl, rfl, rfl, rfl, rfl, rfl⟩, by decide, by decide, by decide, ?_, rfl⟩
  intro a h
  have e : stepAccesses (at0100 [0xB5#8] 0x81#8 0x0000#16) = [.fetch 0x0100#16] := by decide
  rw [e] at h
  rcases h with h | h <;> simp only [List.mem_cons, Access.fetch.injEq, reduceCtorEq, List.not_mem_nil, or_false] at h
  subst h
  decide

/-- The source's end-to-end scenario (W8, P1): two steps, then the halt byte. -/
def program1 : State :=
  start 0x0000#16 [0x08#8, 0x10#8, 0x00#8, 0xB7#8, 0x10#8, 0x01#8, 0x19#8] 0x00#8 0x0000#16
    [(0x1000#16, 0x01#8), (0x1001#16, 0x02#8)]

theorem witness_NormalEndStandsAtTheHaltByte :
    program1.err = .none ∧ driverRun 0x19#8 3 program1 = .normal (stepNext (stepNext program1)) ∧
      (stepNext (stepNext program1)).acc = 0x03#8 ∧ (stepNext (stepNext program1)).pc = 0x0006#16 := by decide

/-- The second clause: a state that stands at the halt byte. -/
theorem witness_halt_byte_at_pc :
    (at0100 [0x19#8] 0x00#8 0x0000#16).pcx = false ∧
      (at0100 [0x19#8] 0x00#8 0x0000#16).byteAt (at0100 [0x19#8] 0x00#8 0x0000#16).pc = 0x19#8 := by decide

/-- The end of P5: past 0xFFFF, with the first steps left out. -/
theorem witness_ErrorEndHasAnError :
    let s := start 0xFFFF#16 [0xE5#8] 0x06#8 0x0000#16 []
    s.err = .none ∧ driverRun 0x19#8 2 s = .error (stepNext (stepNext s)) ∧
      (stepNext (stepNext s)).errInfo = 0x10000#17 := by decide

theorem witness_MoreFuelKeepsTheEnd :
    let s := start 0xFFFF#16 [0xE5#8] 0x06#8 0x0000#16 []
    driverRun 0x19#8 3 program1 = .normal (stepNext (stepNext program1)) ∧
      driverRun 0x19#8 2 s = .error (stepNext (stepNext s)) := by decide

theorem witness_LaunchLatchAndIrDoNotAffectARun :
    SameButLatch program1 { program1 with ir := 0xFF#8, msb := 0x12#8, lsb := 0x34#8 } :=
  ⟨rfl, rfl, rfl, rfl, rfl, rfl, rfl⟩

end Sys2Proof.Tests
end

/-! ### What one instruction does to the state its fetch left

Everything below about all 152 instructions goes through `execEffect_of_exec` or, for the ALU forms, through one equation for each kind of
destination. -/

namespace Sys2Proof.Machine

/-! #### The latch after a fetch (R78 to R80, R82) -/

/-- A fetch without trailing bytes leaves MSB. -/
theorem fetchOf_msb_of_length_eq_one {i : Instr} (s : State) (h : i.length = 1) : (fetchOf i s).msb = s.msb := by
  have hnil : i.groups = [] := by
    unfold Instr.length at h
    cases hg : i.groups with
    | nil => rfl
    | cons g gs => cases g <;> simp [hg] at h
  simp [fetchOf, State.fetched, State.advance, hnil]

/-- Groups of at most one byte in all leave LSB: only a 2-byte group writes it. -/
theorem latchGroups_lsb_of_length_le_one (gs : List Group) (s : State) (h : (groupBytes gs).length ≤ 1) :
    (s.latchGroups gs).lsb = s.lsb := by
  induction gs generalizing s with
  | nil => rfl
  | cons g gs ih =>
    cases g with
    | byte v => exact ih _ (by simp at h; simp [h])
    | word v => simp at h

/-- A fetch with at most one trailing byte leaves LSB. -/
theorem fetchOf_lsb_of_length_le_two {i : Instr} (s : State) (h : i.length ≤ 2) : (fetchOf i s).lsb = s.lsb :=
  latchGroups_lsb_of_length_le_one i.groups { s with ir := i.opcode } (by unfold Instr.length at h; omega)

@[simp] theorem fetchOf_mem (i : Instr) (s : State) : (fetchOf i s).mem = s.mem := fetched_mem _ _ _
@[simp] theorem fetchOf_acc (i : Instr) (s : State) : (fetchOf i s).acc = s.acc := fetched_acc _ _ _
@[simp] theorem fetchOf_mar (i : Instr) (s : State) : (fetchOf i s).mar = s.mar := fetched_mar _ _ _
@[simp] theorem fetchOf_ir (i : Instr) (s : State) : (fetchOf i s).ir = i.opcode := fetched_ir _ _ _
@[simp] theorem fetchOf_err (i : Instr) (s : State) : (fetchOf i s).err = s.err := fetched_err _ _ _

/-! #### The branches of execute, as one inversion -/

/-- What an execute phase can make of the state `u` that the fetch of `i` left: one register write by an instruction whose destination that
register is, one store, the error of an error form, a jump, or nothing (R128). -/
inductive ExecEffect (i : Instr) (u : State) : State → Prop where
  | setAcc (hd : i.writesAcc) (v : Byte) : ExecEffect i u (u.setAcc v)
  | setMar (hd : i.writesMar) (v : Word) : ExecEffect i u (u.setMar v)
  | store (w : Width) (a : Word) (v : BitVec w.bits) : ExecEffect i u (u.store w a v)
  | raise (he : i.isErrorForm) : ExecEffect i u (u.raise .unresolvedAddress (u.ir.setWidth 17))
  | jump (target : Word) : ExecEffect i u (u.jump target)
  | keep : ExecEffect i u u

theorem execEffect_alu {i : Instr} {f : AluFunc} {d : Dest} {c : Src} (hop : i.op = .alu f d c) (u : State) :
    ExecEffect i u (aluResult f d c u) := by
  cases d with
  | ind => exact .store _ _ _
  | acc => exact .setAcc (.inl ⟨f, c, hop⟩) _
  | mar => exact .setMar (.inl ⟨f, c, hop⟩) _
  | abs => exact .store _ _ _

theorem execEffect_load {i : Instr} {r : MemReg} {m : Method} (hop : i.op = .mem .load r m) (u : State) :
    ExecEffect i u (pseudoLoad r m u) := by
  by_cases hm : m = .undef
  · subst hm
    cases r <;> exact .raise (.inr ⟨_, _, hop⟩)
  · cases r with
    | acc =>
      have hd : i.writesAcc := .inr ⟨m, hm, hop⟩
      cases m with
      | undef => exact absurd rfl hm
      | _ => exact .setAcc hd _
    | mar =>
      have hd : i.writesMar := .inr ⟨m, hm, hop⟩
      cases m with
      | undef => exact absurd rfl hm
      | _ => exact .setMar hd _

theorem execEffect_store {i : Instr} {r : MemReg} {m : Method} (hop : i.op = .mem .store r m) (u : State) :
    ExecEffect i u (pseudoStore r m u) := by
  cases m with
  | imm => cases r <;> exact .raise (.inl ⟨_, hop⟩)
  | undef => cases r <;> exact .raise (.inr ⟨_, _, hop⟩)
  | abs =>
    cases r with
    | acc => exact .store .w8 u.latch u.acc
    | mar => exact .store .w16 u.latch u.mar
  | ind =>
    cases r with
    | acc => exact .store .w8 u.mar u.acc
    | mar => exact .store .w16 u.mar u.mar

theorem execEffect_branch (i : Instr) (t : BrType) (u : State) : ExecEffect i u (branchResult t u) := by
  rcases branchResult_cases t u with ⟨_, h⟩ | ⟨_, h⟩ <;> rw [h]
  · exact .jump _
  · exact .keep

/-- Every instruction has one of the six effects on the state its fetch left. -/
theorem execEffect_of_exec {i : Instr} {s t : State} (h : exec i s = .next t) : ExecEffect i (fetchOf i s) t := by
  obtain rfl := eq_of_exec h
  cases hop : i.op with
  | alu f d c => exact execEffect_alu hop _
  | mem d r m =>
    cases d with
    | load => exact execEffect_load hop _
    | store => exact execEffect_store hop _
  | br y => exact execEffect_branch i y _

/-! ### The invariant -/

/-- Without an error the invariant is what it says of memory, PCX and ERR_INFO. -/
theorem inv_of_err_none {s : State} (hm : Memory.wf s.mem = true) (hc : s.pcx = true → s.pc = 0x0000#16)
    (he : s.err = .none) (hi : s.errInfo = 0#17) : s.Inv where
  memCanonical := hm
  carryAtZero := hc
  noErrorNoInfo _ := hi
  outOfBoundsInfo h := by simp [he] at h
  unresolvedInfo h := by simp [he] at h

/-- Each launch from a canonical image meets the invariant (R28). -/
theorem launch_inv {l : Launch} (hm : Memory.wf l.mem = true) : (State.launch l).Inv :=
  inv_of_err_none hm (by simp) rfl rfl

/-- A PC that advances to exactly 0x10000 wraps to 0 (R81). -/
theorem pc_add_eq_zero {p : Word} {n : Nat} (h : p.toNat + n = 0x10000) : p + BitVec.ofNat 16 n = 0x0000#16 := by
  apply BitVec.eq_of_toNat_eq
  simp only [BitVec.toNat_add, BitVec.toNat_ofNat]
  omega

section
variable {s : State} (hs : s.Inv) (he : s.err = .none)
include hs he

theorem fetched_inv (code : Byte) (gs : List Group) : (s.fetched code gs).Inv :=
  inv_of_err_none (by simpa using hs.memCanonical)
    (fun hx => by
      rw [fetched_pcx, decide_eq_true_eq] at hx
      rw [fetched_pc, pc_add_eq_zero hx])
    (by simpa using he) (by simpa using hs.noErrorNoInfo he)

theorem setAcc_inv (v : Byte) : (s.setAcc v).Inv :=
  inv_of_err_none hs.memCanonical hs.carryAtZero he (hs.noErrorNoInfo he)

theorem setMar_inv (v : Word) : (s.setMar v).Inv :=
  inv_of_err_none hs.memCanonical hs.carryAtZero he (hs.noErrorNoInfo he)

theorem store_inv (w : Width) (a : Word) (v : BitVec w.bits) : (s.store w a v).Inv :=
  inv_of_err_none (writeMem_wf hs.memCanonical a w v) hs.carryAtZero he (hs.noErrorNoInfo he)

theorem jump_inv (target : Word) : (s.jump target).Inv :=
  inv_of_err_none hs.memCanonical (by simp) he (hs.noErrorNoInfo he)

end

/-- An error that records IR keeps the invariant when IR is one of the six opcodes that raise it (R141). -/
theorem raise_unresolvedAddress_inv {s : State} (hs : s.Inv) (hir : s.ir ∈ unresolvedOpcodes) :
    (s.raise .unresolvedAddress (s.ir.setWidth 17)).Inv where
  memCanonical := hs.memCanonical
  carryAtZero := hs.carryAtZero
  noErrorNoInfo h := by simp at h
  outOfBoundsInfo h := by simp at h
  unresolvedInfo _ := ⟨rfl, hir⟩

/-- The error of a failed fetch keeps the invariant: it records what R140 says. -/
theorem raise_outOfBounds_inv {s : State} {info : ErrInfo} (hs : s.Inv) (hf : fetchInstr s = .outOfBounds info) :
    (s.raise .outOfBounds info).Inv where
  memCanonical := hs.memCanonical
  carryAtZero := hs.carryAtZero
  noErrorNoInfo h := by simp at h
  outOfBoundsInfo _ := by
    rcases fetchInstr_cases s with ⟨hx, h⟩ | ⟨hx, hb, h⟩ | ⟨_, _, i, _, _, h⟩ | ⟨_, _, e, _, h⟩ <;>
      rw [hf] at h <;> cases h
    · exact .inl ⟨hx, rfl⟩
    · exact .inr ⟨hx, rfl, hb⟩
  unresolvedInfo h := by simp at h

/-- The opcode of a MEM instruction by its fields, under the default polarity (R53 to R55, C1). -/
def memCode (d : Direction) (r : MemReg) (m : Method) : Byte :=
  BitVec.ofNat 8
    ((match d with | .store => 0 | .load => 8) + (match r with | .acc => 0 | .mar => 4) +
      (match m with | .abs => 0 | .imm => 1 | .ind => 2 | .undef => 3))

theorem opcode_eq_memCode {i : Instr} {d : Direction} {r : MemReg} {m : Method} (hop : i.op = .mem d r m) :
    i.opcode = memCode d r m := by
  cases i <;> cases hop <;> rfl

/-- The error forms have the six opcodes of R141. -/
theorem opcode_mem_unresolvedOpcodes {i : Instr} (h : i.isErrorForm) : i.opcode ∈ unresolvedOpcodes := by
  rcases h with ⟨r, hop⟩ | ⟨d, r, hop⟩ <;> rw [opcode_eq_memCode hop]
  · cases r <;> decide
  · cases d <;> cases r <;> decide

/-- Every instruction keeps the invariant from a state without an error. -/
theorem exec_inv {i : Instr} {s t : State} (hs : s.Inv) (he : s.err = .none) (h : exec i s = .next t) : t.Inv := by
  have hu : (fetchOf i s).Inv := fetched_inv hs he _ _
  have heu : (fetchOf i s).err = .none := by simpa using he
  cases execEffect_of_exec h with
  | setAcc _ v => exact setAcc_inv hu heu v
  | setMar _ v => exact setMar_inv hu heu v
  | store w a v => exact store_inv hu heu w a v
  | raise hform => exact raise_unresolvedAddress_inv hu (by simpa using opcode_mem_unresolvedOpcodes hform)
  | jump target => exact jump_inv hu heu target
  | keep => exact hu

/-- Settles O50: each outcome of a step (R131) keeps the invariant. -/
theorem stepKeepsInvariant : Obligations.StepKeepsInvariant := by
  unfold Obligations.StepKeepsInvariant
  intro s t hs h
  rcases step_cases s with ⟨_, hst⟩ | ⟨he, i, _, hst⟩ | ⟨he, code, _, hst⟩ | ⟨he, info, hf, hst⟩ <;> rw [hst] at h
  · cases h
  · exact exec_inv hs he h
  · cases h
    exact fetched_inv hs he code []
  · cases h
    exact raise_outOfBounds_inv hs hf

/-- Settles O51. -/
theorem launchSatisfiesInvariant : Obligations.LaunchSatisfiesInvariant := by
  unfold Obligations.LaunchSatisfiesInvariant
  exact ⟨fun _ hm => launch_inv hm, launch_inv (l := Launch.default) rfl⟩

/-- Settles O52, field by field; reset is the launch of `Launch.default`. -/
theorem launchStateIsAsTheSpecSays : Obligations.LaunchStateIsAsTheSpecSays := by
  unfold Obligations.LaunchStateIsAsTheSpecSays
  exact ⟨fun l => ⟨launch_pc l, launch_pcx l, launch_err l, launch_errInfo l, launch_acc l, launch_mar l, launch_ir l,
    launch_msb l, launch_lsb l, launch_mem l⟩, Launch.default, rfl, rfl⟩

/-! ### Frames -/

/-- Settles O49: of the six effects only a write of the register itself changes it. -/
theorem onlyDestinationsChangeAccAndMar : Obligations.OnlyDestinationsChangeAccAndMar := by
  unfold Obligations.OnlyDestinationsChangeAccAndMar
  intro i s t h
  cases execEffect_of_exec h with
  | setAcc hd v => exact ⟨fun _ => hd, fun hne => absurd (fetchOf_mar i s) hne⟩
  | setMar hd v => exact ⟨fun hne => absurd (fetchOf_acc i s) hne, fun _ => hd⟩
  | _ => exact ⟨fun hne => absurd (fetchOf_acc i s) hne, fun hne => absurd (fetchOf_mar i s) hne⟩

section
variable {i : Instr} {f : AluFunc} {c : Src} {s t : State}

/-- An ALU form with destination ACC is one write of ACC after its fetch (R88). -/
theorem exec_alu_acc (hop : i.op = .alu f .acc c) (h : exec i s = .next t) : ∃ v, t = (fetchOf i s).setAcc v := by
  obtain rfl := eq_of_exec h
  rw [hop]
  exact ⟨_, rfl⟩

/-- An ALU form with destination MAR is one write of MAR after its fetch, with a cleared high byte at width 8 (R88, R89). -/
theorem exec_alu_mar (hop : i.op = .alu f .mar c) (h : exec i s = .next t) :
    ∃ v, t = (fetchOf i s).setMar v ∧ (c = .acc → hiByte v = 0x00#8) := by
  obtain rfl := eq_of_exec h
  rw [hop]
  refine ⟨_, rfl, ?_⟩
  rintro rfl
  exact hiByte_joinBytes _ _

/-- An ALU form with a memory destination is one store of the operation's width after its fetch (R88). -/
theorem exec_alu_store {d : Dest} {addr : Word} (hop : i.op = .alu f d c)
    (hd : d = .ind ∧ addr = (fetchOf i s).mar ∨ d = .abs ∧ addr = (fetchOf i s).latch) (h : exec i s = .next t) :
    ∃ v, t = (fetchOf i s).store (aluWidth d c) addr v := by
  obtain rfl := eq_of_exec h
  rw [hop]
  obtain ⟨rfl, rfl⟩ | ⟨rfl, rfl⟩ := hd <;> exact ⟨_, rfl⟩

end

/-- Settles O29: a write of ACC after the fetch. -/
theorem aluAccFormsFrame : Obligations.AluAccFormsFrame := by
  unfold Obligations.AluAccFormsFrame
  intro i f c s t hop h
  obtain ⟨v, rfl⟩ := exec_alu_acc hop h
  refine ⟨?_, fetchOf_msb_of_length_eq_one s, fetchOf_lsb_of_length_le_two s, fun a => ?_⟩
  · rw [fetchOf_eq]; rfl
  · simp [State.byteAt]

/-- Settles O30: a write of MAR after the fetch. -/
theorem aluMarFormsFrame : Obligations.AluMarFormsFrame := by
  unfold Obligations.AluMarFormsFrame
  intro i f c s t hop h
  obtain ⟨v, rfl, hv⟩ := exec_alu_mar hop h
  refine ⟨?_, fetchOf_msb_of_length_eq_one s, fetchOf_lsb_of_length_le_two s, hv, fun a => ?_⟩
  · rw [fetchOf_eq]; rfl
  · simp [State.byteAt]

/-- Settles O31: a store after the fetch, which leaves every byte outside its cells. -/
theorem aluMemoryFormsFrame : Obligations.AluMemoryFormsFrame := by
  unfold Obligations.AluMemoryFormsFrame
  intro i f d c s t addr hop hd h
  obtain ⟨v, rfl⟩ := exec_alu_store hop hd h
  refine ⟨?_, fetchOf_msb_of_length_eq_one s, fetchOf_lsb_of_length_le_two s, fun a ha ha' => ?_⟩
  · rw [fetchOf_eq]; rfl
  · simp only [State.byteAt, store_mem, fetchOf_mem]
    exact readByte_writeMem_ne s.mem _ v ha ha'

end Sys2Proof.Machine

/-! ### What decoding consumes, and the memory of one step

A decoder of one opcode takes exactly the opcode's trailing bytes, so the cells a fetch lists hold all that `fetchInstr` depends on. Steps of
two states are compared by `AgreeOn`: equal registers and equal bytes in a list of cells. -/

namespace Sys2Proof

/-! #### A fetch finds an instruction whose encoding is what it read (R46, R60) -/

/-- Every list of `n` bytes after `code` is taken whole, as the operands of an instruction that they encode. -/
def TakesExactly (code : Byte) (n : Nat) (dec : List Byte → Decoded) : Prop :=
  ∀ bs : List Byte, bs.length = n → ∃ i, dec bs = .ok (i, []) ∧ encode i = code :: bs

theorem take0_takesExactly {code : Byte} {i : Instr} (h : encode i = [code]) : TakesExactly code 0 (take0 i)
  | [], _ => ⟨i, rfl, h⟩

theorem takeByte_takesExactly {code : Byte} {mk : Byte → Instr} (h : ∀ v, encode (mk v) = [code, v]) :
    TakesExactly code 1 (takeByte code mk)
  | [v], _ => ⟨mk v, rfl, h v⟩

theorem takeWord_takesExactly {code : Byte} {mk : Word → Instr} (h : ∀ v, encode (mk v) = [code, hiByte v, loByte v]) :
    TakesExactly code 2 (takeWord code mk)
  | [hi, lo], _ => ⟨mk (joinBytes hi lo), rfl, by simp [h]⟩

theorem takeTwoWords_takesExactly {code : Byte} {mk : Word → Word → Instr}
    (h : ∀ v w, encode (mk v w) = [code, hiByte v, loByte v, hiByte w, loByte w]) :
    TakesExactly code 4 (takeTwoWords code mk)
  | [hi, lo, hi', lo'], _ => ⟨mk (joinBytes hi lo) (joinBytes hi' lo'), rfl, by simp [h]⟩

/-- The opcode of an ALU form by its fields (R49 to R51). -/
def aluCode (f : AluFunc) (d : Dest) (c : Src) : Byte :=
  BitVec.ofNat 8
    (0x80 +
      (match f with
        | .and => 0x00 | .or => 0x10 | .xor => 0x20 | .add => 0x30 | .sub => 0x40 | .inc => 0x50 | .dec => 0x60 | .not => 0x70) +
      (match d with | .ind => 0 | .acc => 4 | .mar => 8 | .abs => 12) +
      (match c with | .ind => 0 | .acc => 1 | .imm => 2 | .abs => 3))

/-- The bits 2:0 of a branch opcode by its type (R56). -/
def brTypeBits : BrType → BitVec 3
  | .bra => 0b000#3
  | .brz => 0b001#3
  | .bnz => 0b010#3
  | .blt => 0b011#3
  | .ble => 0b100#3
  | .bgt => 0b101#3
  | .bge => 0b110#3
  | .br7 => 0b111#3

theorem aluCode_of_family {code : Byte} (h : family code = .alu) :
    aluCode (funcOf code) (destOf code) (srcOf code) = code := by
  revert code
  decide

theorem memCode_of_family {code : Byte} (h : family code = .mem) :
    Machine.memCode (directionOf code) (memRegOf Config.memRegPolarity code) (methodOf code) = code := by
  revert code
  decide

theorem branchOpcode_of_family {code : Byte} (h : family code = .br) :
    branchOpcode (aliasOf code) (brTypeBits (typeOf code)) = code := by
  revert code
  decide

/-- Every opcode has a family (R48). -/
theorem family_ne_unclassified (code : Byte) : family code ≠ .unclassified := by
  revert code
  decide

/-- The trailing groups of an ALU form are chosen by its destination and source alone (R57). -/
theorem decodeAlu_takesExactly (f : AluFunc) (d : Dest) (c : Src) :
    TakesExactly (aluCode f d c) (trailingCount (aluCode f d c)) (decodeAlu (aluCode f d c) f d c) := by
  cases d with
  | ind | mar =>
    cases c with
    | ind | acc => cases f <;> exact take0_takesExactly rfl
    | imm | abs => cases f <;> exact takeWord_takesExactly fun _ => rfl
  | acc =>
    cases c with
    | ind | acc => cases f <;> exact take0_takesExactly rfl
    | imm => cases f <;> exact takeByte_takesExactly fun _ => rfl
    | abs => cases f <;> exact takeWord_takesExactly fun _ => rfl
  | abs =>
    cases c with
    | ind | acc => cases f <;> exact takeWord_takesExactly fun _ => rfl
    | imm | abs => cases f <;> exact takeTwoWords_takesExactly fun _ _ => rfl

/-- The trailing group of a transfer is chosen by its method, and by its register if immediate (R58). -/
theorem decodeMem_takesExactly (d : Direction) (r : MemReg) (m : Method) :
    TakesExactly (Machine.memCode d r m) (trailingCount (Machine.memCode d r m))
      (decodeMem (Machine.memCode d r m) d r m) := by
  cases m with
  | abs => cases d <;> cases r <;> exact takeWord_takesExactly fun _ => rfl
  | ind | undef => cases d <;> cases r <;> exact take0_takesExactly rfl
  | imm =>
    cases r with
    | acc => cases d <;> exact takeByte_takesExactly fun _ => rfl
    | mar => cases d <;> exact takeWord_takesExactly fun _ => rfl

/-- Every branch takes one word (R59). -/
theorem decodeBr_takesExactly {code : Byte} {t : BrType} (h : branchOpcode (aliasOf code) (brTypeBits t) = code) :
    TakesExactly code 2 (decodeBr code t) := by
  cases t <;> exact takeWord_takesExactly fun v => congrArg (· :: [hiByte v, loByte v]) h

/-- An opcode and as many bytes as its trailing count decode to the instruction they encode, with nothing left over (R46, R48, R60). -/
theorem decode_takesExactly (code : Byte) :
    TakesExactly code (trailingCount code) fun bs => decode (code :: bs) := by
  cases hf : family code with
  | alu =>
    have := decodeAlu_takesExactly (funcOf code) (destOf code) (srcOf code)
    rw [aluCode_of_family hf] at this
    simpa only [decode, decodeWith, hf] using this
  | mem =>
    have := decodeMem_takesExactly (directionOf code) (memRegOf Config.memRegPolarity code) (methodOf code)
    rw [memCode_of_family hf] at this
    simpa only [decode, decodeWith, hf] using this
  | br =>
    have hn : trailingCount code = 2 := by simp only [trailingCount, trailingCountWith, hf]
    rw [hn]
    simpa only [decode, decodeWith, hf] using decodeBr_takesExactly (branchOpcode_of_family hf)
  | unclassified => exact absurd hf (family_ne_unclassified code)

theorem encode_length (i : Instr) : (encode i).length = i.length := by
  simp [encode, encodeWith, Instr.length, Nat.add_comm]

end Sys2Proof

namespace Sys2Proof.Machine

/-! #### What the read side of fetch finds (R73 to R77, R83) -/

/-- Inside memory the bytes an instruction occupies are those of the cells its fetch lists. -/
theorem bytesFrom_eq_map_fetchCells {m : Memory} {n a : Nat} (h : a + n ≤ 0x10000) :
    bytesFrom m a n = (fetchCells (BitVec.ofNat 16 a) n).map (Memory.readByte m) := by
  induction n generalizing a with
  | zero => rfl
  | succ n ih =>
    have ha : (BitVec.ofNat 16 a).toNat = a := by rw [BitVec.toNat_ofNat]; omega
    have hnext : BitVec.ofNat 16 a + 1#16 = BitVec.ofNat 16 (a + 1) := (BitVec.ofNat_add a 1).symm
    rw [bytesFrom_succ, ih (by omega), fetchCells, List.map_cons, hnext, Memory.readByte, ha]

theorem bytesFrom_one_add (s : State) (n : Nat) :
    bytesFrom s.mem s.pc.toNat (1 + n) = s.byteAt s.pc :: bytesFrom s.mem (s.pc.toNat + 1) n := by
  rw [Nat.add_comm, bytesFrom_succ]
  rfl

/-- The bytes at PC always decode to an instruction that they encode. -/
theorem exists_decode_at_pc (s : State) :
    ∃ i, decode (bytesFrom s.mem s.pc.toNat (1 + trailingCount (s.byteAt s.pc))) = .ok (i, []) ∧
      encode i = bytesFrom s.mem s.pc.toNat (1 + trailingCount (s.byteAt s.pc)) := by
  rw [bytesFrom_one_add]
  exact decode_takesExactly (s.byteAt s.pc) _ (bytesFrom_length _ _ _)

/-- The instruction a fetch finds lies inside memory, and its encoding is exactly the bytes at PC. -/
theorem encode_of_fetchInstr {s : State} {i : Instr} (h : fetchInstr s = .instr i) :
    s.pcx = false ∧ s.pc.toNat + i.length ≤ 0x10000 ∧ i.length = 1 + trailingCount (s.byteAt s.pc) ∧
      encode i = bytesFrom s.mem s.pc.toNat i.length := by
  rcases fetchInstr_cases s with ⟨_, hf⟩ | ⟨_, _, hf⟩ | ⟨hx, hb, j, rest, hd, hf⟩ | ⟨_, _, e, _, hf⟩ <;>
    rw [h] at hf <;> cases hf
  obtain ⟨j, hj, he⟩ := exists_decode_at_pc s
  cases hd.symm.trans hj
  have hlen : i.length = 1 + trailingCount (s.byteAt s.pc) := by rw [← encode_length, he, bytesFrom_length]
  exact ⟨hx, by omega, hlen, hlen ▸ he⟩

/-- The opcode a fetch finds is the byte at PC (R75). -/
theorem opcode_of_fetchInstr {s : State} {i : Instr} (h : fetchInstr s = .instr i) : i.opcode = s.byteAt s.pc := by
  obtain ⟨_, _, hlen, he⟩ := encode_of_fetchInstr h
  rw [hlen, bytesFrom_one_add] at he
  exact (List.cons.inj he).1

/-- No fetch reaches the classifier's last arm (R48, R129). -/
theorem fetchInstr_ne_unclassified (s : State) (code : Byte) : fetchInstr s ≠ .unclassified code := by
  intro h
  rcases fetchInstr_cases s with ⟨_, hf⟩ | ⟨_, _, hf⟩ | ⟨_, _, i, rest, _, hf⟩ | ⟨_, _, e, hd, _⟩
  case inr.inr.inr =>
    obtain ⟨i, hi, _⟩ := exists_decode_at_pc s
    cases hd.symm.trans hi
  all_goals cases h.symm.trans hf

/-- A step that finds an instruction executes it (R131). -/
theorem step_of_fetchInstr {s : State} {i : Instr} (he : s.err = .none) (hf : fetchInstr s = .instr i) :
    step s = exec i s := by
  simp only [step, he, hf]

/-- A failed fetch raises OutOfBounds and nothing executes (R145). -/
theorem step_of_outOfBounds {s : State} {info : ErrInfo} (he : s.err = .none) (hf : fetchInstr s = .outOfBounds info) :
    step s = .next (s.raise .outOfBounds info) := by
  simp only [step, he, hf]

theorem stepAccesses_of_fetchInstr {s : State} {i : Instr} (he : s.err = .none) (hf : fetchInstr s = .instr i) :
    stepAccesses s = instrAccesses i s := by
  simp only [stepAccesses, he, hf]

theorem stepAccesses_of_outOfBounds {s : State} {info : ErrInfo} (he : s.err = .none)
    (hf : fetchInstr s = .outOfBounds info) : stepAccesses s = if s.pcx then [] else [.fetch s.pc] := by
  simp only [stepAccesses, he, hf]

@[simp] theorem fetch_mem_instrAccesses {i : Instr} {s : State} {a : Word} :
    Access.fetch a ∈ instrAccesses i s ↔ a ∈ fetchCells s.pc i.length := by
  simp [instrAccesses]

@[simp] theorem read_mem_instrAccesses {i : Instr} {s : State} {a : Word} :
    Access.read a ∈ instrAccesses i s ↔ a ∈ readCells i.op (fetchOf i s) := by
  simp [instrAccesses]

@[simp] theorem write_mem_instrAccesses {i : Instr} {s : State} {a : Word} :
    Access.write a ∈ instrAccesses i s ↔ a ∈ writeCells i.op (fetchOf i s) := by
  simp [instrAccesses]

@[simp] theorem fetchOf_byteAt (i : Instr) (s : State) (a : Word) : (fetchOf i s).byteAt a = s.byteAt a := by
  rw [State.byteAt, fetchOf_mem, State.byteAt]

/-! #### The cells a store touches (R33, R36) -/

@[simp] theorem mem_cellsAt {w : Width} {a x : Word} : x ∈ cellsAt w a ↔ x = a ∨ (w = .w16 ∧ x = a + 1#16) := by
  cases w <;> simp [cellsAt]

/-- A store leaves every byte outside its cells. -/
theorem byteAt_store_of_not_mem {s : State} {w : Width} {addr a : Word} {v : BitVec w.bits} (h : a ∉ cellsAt w addr) :
    (s.store w addr v).byteAt a = s.byteAt a := by
  rw [mem_cellsAt, not_or, not_and] at h
  exact readByte_writeMem_ne s.mem w v h.1 h.2

/-- A store determines every byte of its cells, whatever canonical memory it stores into. -/
theorem byteAt_store_congr {s t : State} (hs : Memory.wf s.mem = true) (ht : Memory.wf t.mem = true) {w : Width}
    {addr a : Word} (v : BitVec w.bits) (h : a ∈ cellsAt w addr) :
    (s.store w addr v).byteAt a = (t.store w addr v).byteAt a := by
  cases w with
  | w8 =>
    obtain rfl := List.mem_singleton.mp h
    exact (readByte_writeByte_same hs a v).trans (readByte_writeByte_same ht a v).symm
  | w16 =>
    obtain rfl | ⟨_, rfl⟩ := mem_cellsAt.mp h
    · exact (readByte_writeWord_hi hs a v).trans (readByte_writeWord_hi ht a v).symm
    · exact (readByte_writeWord_lo hs addr v).trans (readByte_writeWord_lo ht addr v).symm

/-- A read depends only on the bytes of its cells. -/
theorem readMem_congr {s t : State} {w : Width} {addr : Word} (h : ∀ a ∈ cellsAt w addr, s.byteAt a = t.byteAt a) :
    Memory.readMem s.mem addr w = Memory.readMem t.mem addr w := by
  cases w with
  | w8 => exact h addr (by simp)
  | w16 => exact congrArg₂ joinBytes (h addr (by simp)) (h (addr + 1#16) (by simp))

/-! #### One instruction writes the cells it lists and no other -/

/-- The result of an ALU form leaves every byte outside its destination cells (R88). -/
theorem byteAt_saveResult_of_not_mem {d : Dest} {w : Width} {r : BitVec w.bits} {u : State} {a : Word}
    (h : a ∉ destCells d w u) : (saveResult d w r u).byteAt a = u.byteAt a := by
  cases d with
  | ind | abs => exact byteAt_store_of_not_mem h
  | acc | mar => rfl

/-- A store of the MEM family leaves every byte outside its transfer cells (R110 to R115). -/
theorem byteAt_pseudoStore_of_not_mem {r : MemReg} {m : Method} {u : State} {a : Word} (h : a ∉ transferCells r m u) :
    (pseudoStore r m u).byteAt a = u.byteAt a := by
  cases m with
  | imm | undef => cases r <;> rfl
  | abs | ind =>
    cases r with
    | acc => exact byteAt_store_of_not_mem (w := .w8) h
    | mar => exact byteAt_store_of_not_mem (w := .w16) h

/-- An execute phase leaves every byte outside its write cells (R36). -/
theorem byteAt_opResult_of_not_mem {o : Op} {u : State} {a : Word} (h : a ∉ writeCells o u) :
    (opResult o u).byteAt a = u.byteAt a := by
  rcases o with ⟨f, d, c⟩ | ⟨_ | _, r, m⟩ | y
  · exact byteAt_saveResult_of_not_mem h
  · exact byteAt_pseudoStore_of_not_mem h
  · cases r <;> cases m <;> rfl
  · rcases branchResult_cases y u with ⟨_, hy⟩ | ⟨_, hy⟩ <;> simp [opResult, hy, State.byteAt]

/-- Settles O55: only an instruction that was fetched writes memory, and it writes its own cells. -/
theorem stepWritesOnlyListedCells : Obligations.StepWritesOnlyListedCells := by
  unfold Obligations.StepWritesOnlyListedCells
  intro s t a hst ha
  rcases step_cases s with ⟨_, h⟩ | ⟨he, i, hf, h⟩ | ⟨_, code, hf, _⟩ | ⟨_, info, _, h⟩
  · cases h.symm.trans hst
  · obtain rfl := eq_of_exec (h.symm.trans hst)
    rw [stepAccesses_of_fetchInstr he hf, write_mem_instrAccesses] at ha
    rw [byteAt_opResult_of_not_mem ha, fetchOf_byteAt]
  · exact absurd hf (fetchInstr_ne_unclassified s code)
  · cases h.symm.trans hst
    rfl

/-! #### Stored bytes read back -/

section
variable {s : State} (hs : Memory.wf s.mem = true)
include hs

theorem byteAt_store_w8 (a : Word) (v : Byte) : (s.store .w8 a v).byteAt a = v := readByte_writeByte_same hs a v

theorem byteAt_store_w16_hi (a v : Word) : (s.store .w16 a v).byteAt a = hiByte v := readByte_writeWord_hi hs a v

theorem byteAt_store_w16_lo (a v : Word) : (s.store .w16 a v).byteAt (a + 1#16) = loByte v :=
  readByte_writeWord_lo hs a v

end

/-! The four defined stores as one store after the fetch (R110 to R113). -/

theorem exec_storeAccAbs (addr : Word) (s : State) :
    exec (.storeAccAbs addr) s = .next ((fetchOf (.storeAccAbs addr) s).store .w8 addr s.acc) :=
  congrArg (fun a => Host.Outcome.next ((fetchOf (.storeAccAbs addr) s).store .w8 a s.acc)) (joinBytes_hiByte_loByte addr)

theorem exec_storeAccInd (s : State) :
    exec .storeAccInd s = .next ((fetchOf .storeAccInd s).store .w8 s.mar s.acc) := rfl

theorem exec_storeMarAbs (addr : Word) (s : State) :
    exec (.storeMarAbs addr) s = .next ((fetchOf (.storeMarAbs addr) s).store .w16 addr s.mar) :=
  congrArg (fun a => Host.Outcome.next ((fetchOf (.storeMarAbs addr) s).store .w16 a s.mar)) (joinBytes_hiByte_loByte addr)

theorem exec_storeMarInd (s : State) :
    exec .storeMarInd s = .next ((fetchOf .storeMarInd s).store .w16 s.mar s.mar) := rfl

/-- After STORE ACC,[a] the byte at a is ACC (R110). -/
theorem byteAt_of_exec_storeAccAbs {s t : State} {addr : Word} (hs : Memory.wf s.mem = true)
    (h : exec (.storeAccAbs addr) s = .next t) : t.byteAt addr = s.acc := by
  cases (exec_storeAccAbs addr s).symm.trans h
  exact byteAt_store_w8 (by rwa [fetchOf_mem]) addr s.acc

/-- Settles O41: each store writes a register that its fetch kept into memory that its fetch kept canonical. -/
theorem storedWordReadsBackBigEndian : Obligations.StoredWordReadsBackBigEndian := by
  unfold Obligations.StoredWordReadsBackBigEndian
  intro s t addr hs
  have hu (i : Instr) : Memory.wf (fetchOf i s).mem = true := by rwa [fetchOf_mem]
  refine ⟨fun h => ?_, fun h => ?_, byteAt_of_exec_storeAccAbs hs, fun h => ?_⟩
  · cases (exec_storeMarAbs addr s).symm.trans h
    exact ⟨byteAt_store_w16_hi (hu _) addr s.mar, byteAt_store_w16_lo (hu _) addr s.mar⟩
  · cases (exec_storeMarInd s).symm.trans h
    exact ⟨byteAt_store_w16_hi (hu _) s.mar s.mar, byteAt_store_w16_lo (hu _) s.mar s.mar⟩
  · cases (exec_storeAccInd s).symm.trans h
    exact byteAt_store_w8 (hu _) s.mar s.acc

/-- Settles O43: the byte just stored at PC is the opcode that the next fetch reads. -/
theorem storeIsSeenByTheNextFetch : Obligations.StoreIsSeenByTheNextFetch := by
  unfold Obligations.StoreIsSeenByTheNextFetch
  intro s t u addr hs hst hpc htu herr
  rcases step_cases t with ⟨_, h⟩ | ⟨_, i, hf, h⟩ | ⟨_, code, hf, _⟩ | ⟨_, info, _, h⟩
  · cases h.symm.trans htu
  · obtain rfl := eq_of_exec (h.symm.trans htu)
    rw [opResult_ir, fetchOf_ir, opcode_of_fetchInstr hf, hpc, byteAt_of_exec_storeAccAbs hs hst]
  · exact absurd hf (fetchInstr_ne_unclassified t code)
  · cases h.symm.trans htu
    exact absurd rfl herr

/-! #### Two states that agree on some cells -/

/-- Equal registers, and equal bytes in the listed cells. -/
def AgreeOn (cells : List Word) (s t : State) : Prop := SameRegisters s t ∧ ∀ a ∈ cells, s.byteAt a = t.byteAt a

/-- `s` with another memory. -/
def State.withMem (s : State) (m : Memory) : State := { s with mem := m }

@[simp] theorem withMem_mem (s : State) (m : Memory) : (s.withMem m).mem = m := rfl
@[simp] theorem withMem_pc (s : State) (m : Memory) : (s.withMem m).pc = s.pc := rfl
@[simp] theorem withMem_pcx (s : State) (m : Memory) : (s.withMem m).pcx = s.pcx := rfl
@[simp] theorem withMem_err (s : State) (m : Memory) : (s.withMem m).err = s.err := rfl

theorem eq_withMem {s t : State} (h : SameRegisters s t) : t = s.withMem t.mem := by
  cases s
  cases t
  obtain ⟨rfl, rfl, rfl, rfl, rfl, rfl, rfl, rfl, rfl⟩ := h
  rfl

theorem sameRegisters_withMem (s : State) (m : Memory) : SameRegisters s (s.withMem m) :=
  ⟨rfl, rfl, rfl, rfl, rfl, rfl, rfl, rfl, rfl⟩

theorem agreeOn_nil_withMem (s : State) (m : Memory) : AgreeOn [] s (s.withMem m) :=
  ⟨sameRegisters_withMem s m, by simp⟩

theorem latchGroups_withMem (gs : List Group) (s : State) (m : Memory) :
    (s.withMem m).latchGroups gs = (s.latchGroups gs).withMem m := by
  induction gs generalizing s with
  | nil => rfl
  | cons g gs ih => rw [latchGroups_cons, latchGroups_cons, ← ih]; cases g <;> rfl

/-- The register writes of a fetch do not depend on memory. -/
theorem fetchOf_withMem (i : Instr) (s : State) (m : Memory) : fetchOf i (s.withMem m) = (fetchOf i s).withMem m :=
  congrArg (State.advance · (1 + (groupBytes i.groups).length))
    (latchGroups_withMem i.groups { s with ir := i.opcode } m)

theorem branchResult_withMem (y : BrType) (u : State) (m : Memory) :
    branchResult y (u.withMem m) = (branchResult y u).withMem m := by
  rcases branchResult_cases y u with ⟨hy, h⟩ | ⟨hy, h⟩ <;>
    rcases branchResult_cases y (u.withMem m) with ⟨hy', h'⟩ | ⟨hy', h'⟩
  · rw [h, h']; rfl
  · cases hy.symm.trans hy'
  · cases hy.symm.trans hy'
  · rw [h, h']

section
variable {u : State} {m : Memory}

/-- `ReadDest` depends only on its cells (R86). -/
theorem readDest_withMem {d : Dest} {w : Width} (h : ∀ a ∈ destCells d w u, u.byteAt a = (u.withMem m).byteAt a) :
    readDest d w (u.withMem m) = readDest d w u := by
  cases d with
  | ind | abs => exact (readMem_congr h).symm
  | acc | mar => rfl

/-- `ReadSrc` depends only on its cells (R87). -/
theorem readSrc_withMem {c : Src} {w : Width} (h : ∀ a ∈ srcCells c w u, u.byteAt a = (u.withMem m).byteAt a) :
    readSrc c w (u.withMem m) = readSrc c w u := by
  cases c with
  | ind | abs => exact (readMem_congr h).symm
  | acc => rfl
  | imm => cases w <;> rfl

/-- A load depends only on its cells (R104 to R109). -/
theorem pseudoLoad_withMem {r : MemReg} {y : Method}
    (h : ∀ a ∈ transferCells r y u, u.byteAt a = (u.withMem m).byteAt a) :
    pseudoLoad r y (u.withMem m) = (pseudoLoad r y u).withMem m := by
  cases y with
  | imm | undef => cases r <;> rfl
  | abs | ind =>
    cases r with
    | acc => exact congrArg (u.withMem m).setAcc (readMem_congr (w := .w8) h).symm
    | mar => exact congrArg (u.withMem m).setMar (readMem_congr (w := .w16) h).symm

section
variable (hu : Memory.wf u.mem = true) (hm : Memory.wf m = true)
include hu hm

theorem store_agreeOn (w : Width) (a : Word) (v : BitVec w.bits) :
    AgreeOn (cellsAt w a) (u.store w a v) ((u.withMem m).store w a v) :=
  ⟨sameRegisters_withMem _ (Memory.writeMem m a w v), fun _ => byteAt_store_congr hu hm v⟩

theorem saveResult_agreeOn (d : Dest) (w : Width) (r : BitVec w.bits) :
    AgreeOn (destCells d w u) (saveResult d w r u) (saveResult d w r (u.withMem m)) := by
  cases d with
  | ind | abs => exact store_agreeOn hu hm w _ r
  | acc | mar => exact agreeOn_nil_withMem _ m

theorem pseudoStore_agreeOn (r : MemReg) (y : Method) :
    AgreeOn (transferCells r y u) (pseudoStore r y u) (pseudoStore r y (u.withMem m)) := by
  cases y with
  | imm | undef => cases r <;> exact agreeOn_nil_withMem _ m
  | abs | ind =>
    cases r with
    | acc => exact store_agreeOn hu hm .w8 _ u.acc
    | mar => exact store_agreeOn hu hm .w16 _ u.mar

/-- An execute phase takes states that agree on what it reads to states that agree on what it writes (R36, R130). -/
theorem opResult_agreeOn {o : Op} (h : ∀ a ∈ readCells o u, u.byteAt a = (u.withMem m).byteAt a) :
    AgreeOn (writeCells o u) (opResult o u) (opResult o (u.withMem m)) := by
  rcases o with ⟨f, d, c⟩ | ⟨_ | _, r, y⟩ | y
  · have hd := readDest_withMem fun a ha => h a (List.mem_append_left _ ha)
    have hc := readSrc_withMem fun a ha => h a (List.mem_append_right _ ha)
    rw [opResult, opResult, aluResult, aluResult, hd, hc]
    exact saveResult_agreeOn hu hm d _ _
  · exact pseudoStore_agreeOn hu hm r y
  · rw [opResult, opResult, pseudoLoad_withMem h]
    exact agreeOn_nil_withMem _ m
  · rw [opResult, opResult, branchResult_withMem]
    exact agreeOn_nil_withMem _ m

end

/-! #### One step depends on the cells it lists and no other -/

/-- The cells execute reads do not depend on memory. -/
theorem readCells_withMem (o : Op) : readCells o (u.withMem m) = readCells o u := by
  rcases o with _ | ⟨_ | _, _, _⟩ | _ <;> rfl

/-- The cells execute writes do not depend on memory. -/
theorem writeCells_withMem (o : Op) : writeCells o (u.withMem m) = writeCells o u := by
  rcases o with _ | ⟨_ | _, _, _⟩ | _ <;> rfl

end

section
variable {s : State} {m : Memory}

theorem instrAccesses_withMem (i : Instr) : instrAccesses i (s.withMem m) = instrAccesses i s := by
  rw [instrAccesses, fetchOf_withMem, readCells_withMem, writeCells_withMem]
  rfl

/-- A memory with the same bytes in the cells of the instruction at PC gives the same instruction (R83). -/
theorem fetchInstr_withMem_of_instr {i : Instr} (hf : fetchInstr s = .instr i)
    (h : ∀ a ∈ fetchCells s.pc i.length, s.byteAt a = (s.withMem m).byteAt a) :
    fetchInstr (s.withMem m) = .instr i := by
  obtain ⟨_, hb, hlen, _⟩ := encode_of_fetchInstr hf
  have hbytes : bytesFrom s.mem s.pc.toNat i.length = bytesFrom m s.pc.toNat i.length := by
    rw [bytesFrom_eq_map_fetchCells hb, bytesFrom_eq_map_fetchCells hb, BitVec.ofNat_toNat, BitVec.setWidth_eq]
    exact List.map_congr_left h
  have hcode : s.byteAt s.pc = (s.withMem m).byteAt s.pc := by
    refine h s.pc ?_
    rw [hlen, Nat.add_comm, fetchCells]
    exact List.mem_cons_self
  rw [hlen] at hbytes
  rw [← hf, fetchInstr, fetchInstr, withMem_pcx, withMem_pc, withMem_mem, ← hcode, hbytes]

/-- A memory with the same opcode byte fails the same fetch (R74, R77). -/
theorem fetchInstr_withMem_of_outOfBounds {info : ErrInfo} (hf : fetchInstr s = .outOfBounds info)
    (h : s.pcx = false → s.byteAt s.pc = (s.withMem m).byteAt s.pc) :
    fetchInstr (s.withMem m) = .outOfBounds info := by
  rcases fetchInstr_cases s with ⟨hx, hs⟩ | ⟨hx, hb, hs⟩ | ⟨_, _, i, _, _, hs⟩ | ⟨_, _, e, _, hs⟩ <;>
    cases hf.symm.trans hs
  · exact if_pos hx
  · simp [fetchInstr, hx, ← h hx, hb]

end

/-- Settles O56: both fetches find the same thing, after which the execute phase takes agreement on the read cells to agreement on the
written cells. -/
theorem stepDependsOnlyOnListedCells : Obligations.StepDependsOnlyOnListedCells := by
  unfold Obligations.StepDependsOnlyOnListedCells
  intro s t s' hreg hs ht hagree hst
  obtain ⟨m, rfl⟩ : ∃ m, t = s.withMem m := ⟨t.mem, eq_withMem hreg⟩
  have het := withMem_err s m
  rcases step_cases s with ⟨_, h⟩ | ⟨he, i, hf, h⟩ | ⟨_, code, hf, _⟩ | ⟨he, info, hf, h⟩
  · cases h.symm.trans hst
  · obtain rfl := eq_of_exec (h.symm.trans hst)
    rw [stepAccesses_of_fetchInstr he hf] at hagree ⊢
    have hft : fetchInstr (s.withMem m) = .instr i :=
      fetchInstr_withMem_of_instr hf fun a ha => hagree a (.inl (fetch_mem_instrAccesses.mpr ha))
    have hread : ∀ a ∈ readCells i.op (fetchOf i s), (fetchOf i s).byteAt a = ((fetchOf i s).withMem m).byteAt a :=
      fun a ha => (fetchOf_byteAt i s a).trans (hagree a (.inr (read_mem_instrAccesses.mpr ha)))
    obtain ⟨hregs, hwritten⟩ := opResult_agreeOn (by rwa [fetchOf_mem]) ht hread
    rw [← fetchOf_withMem] at hregs hwritten
    refine ⟨_, (step_of_fetchInstr (het.trans he) hft).trans (exec_eq i _), hregs, ?_, fun a ha => ?_⟩
    · rw [stepAccesses_of_fetchInstr (het.trans he) hft, instrAccesses_withMem]
    · exact hwritten a (write_mem_instrAccesses.mp ha)
  · exact absurd hf (fetchInstr_ne_unclassified s code)
  · cases h.symm.trans hst
    rw [stepAccesses_of_outOfBounds he hf] at hagree ⊢
    have hft : fetchInstr (s.withMem m) = .outOfBounds info :=
      fetchInstr_withMem_of_outOfBounds hf fun hx => hagree s.pc (.inl (by simp [hx]))
    refine ⟨_, step_of_outOfBounds (het.trans he) hft, sameRegisters_withMem _ m,
      stepAccesses_of_outOfBounds (het.trans he) hft, fun a ha => ?_⟩
    cases hx : s.pcx <;> simp [hx] at ha

end Sys2Proof.Machine

/-! ### The round trip of decoding and encoding (R46 to R60)

Both directions go through the three formats of an opcode byte, `1fffddss`, `0000drmm` and `0xxxxttt`: an equation for decoding each format,
and the fact that every byte has one of them. -/

namespace Sys2Proof

/-! #### What a decoder of one form takes -/

theorem takeWord_eq_ok_iff {code : Byte} {mk : Word → Instr} {bs rest : List Byte} {i : Instr} :
    takeWord code mk bs = .ok (i, rest) ↔ ∃ v, i = mk v ∧ bs = groupBytes [.word v] ++ rest := by
  constructor
  · intro h
    match bs with
    | hi :: lo :: _ => cases h; exact ⟨joinBytes hi lo, rfl, by simp⟩
    | [_] | [] => cases h
  · rintro ⟨v, rfl, rfl⟩
    simp

/-- All that `dec` answers are instructions with the fields `o`, whose trailing groups it took from the front of the bytes. -/
def DecodesOnly (o : Op) (dec : List Byte → Decoded) : Prop :=
  ∀ bs i rest, dec bs = .ok (i, rest) → i.op = o ∧ bs = groupBytes i.groups ++ rest

section
variable {o : Op} {code : Byte}

theorem take0_decodesOnly {i : Instr} (h : i.op = o ∧ i.groups = []) : DecodesOnly o (take0 i) := by
  intro bs j rest hj
  cases hj
  simp [h]

theorem takeByte_decodesOnly {mk : Byte → Instr} (h : ∀ v, (mk v).op = o ∧ (mk v).groups = [.byte v]) :
    DecodesOnly o (takeByte code mk) := by
  intro bs j rest hj
  match bs with
  | v :: _ => cases hj; simp [h]
  | [] => cases hj

theorem takeWord_decodesOnly {mk : Word → Instr} (h : ∀ v, (mk v).op = o ∧ (mk v).groups = [.word v]) :
    DecodesOnly o (takeWord code mk) := by
  intro bs j rest hj
  obtain ⟨v, rfl, rfl⟩ := takeWord_eq_ok_iff.mp hj
  simp [h]

theorem takeTwoWords_decodesOnly {mk : Word → Word → Instr}
    (h : ∀ v w, (mk v w).op = o ∧ (mk v w).groups = [.word v, .word w]) : DecodesOnly o (takeTwoWords code mk) := by
  intro bs j rest hj
  match bs with
  | hi :: lo :: _ =>
    obtain ⟨w, rfl, rfl⟩ := takeWord_eq_ok_iff.mp hj
    simp [h]
  | [_] | [] => cases hj

end

theorem decodeAlu_decodesOnly (code : Byte) (f : AluFunc) (d : Dest) (c : Src) :
    DecodesOnly (.alu f d c) (decodeAlu code f d c) := by
  cases d with
  | ind | mar =>
    cases c with
    | ind | acc => cases f <;> exact take0_decodesOnly ⟨rfl, rfl⟩
    | imm | abs => cases f <;> exact takeWord_decodesOnly fun _ => ⟨rfl, rfl⟩
  | acc =>
    cases c with
    | ind | acc => cases f <;> exact take0_decodesOnly ⟨rfl, rfl⟩
    | imm => cases f <;> exact takeByte_decodesOnly fun _ => ⟨rfl, rfl⟩
    | abs => cases f <;> exact takeWord_decodesOnly fun _ => ⟨rfl, rfl⟩
  | abs =>
    cases c with
    | ind | acc => cases f <;> exact takeWord_decodesOnly fun _ => ⟨rfl, rfl⟩
    | imm | abs => cases f <;> exact takeTwoWords_decodesOnly fun _ _ => ⟨rfl, rfl⟩

theorem decodeMem_decodesOnly (code : Byte) (d : Direction) (r : MemReg) (m : Method) :
    DecodesOnly (.mem d r m) (decodeMem code d r m) := by
  cases m with
  | abs => cases d <;> cases r <;> exact takeWord_decodesOnly fun _ => ⟨rfl, rfl⟩
  | ind | undef => cases d <;> cases r <;> exact take0_decodesOnly ⟨rfl, rfl⟩
  | imm =>
    cases r with
    | acc => cases d <;> exact takeByte_decodesOnly fun _ => ⟨rfl, rfl⟩
    | mar => cases d <;> exact takeWord_decodesOnly fun _ => ⟨rfl, rfl⟩

section
variable {i : Instr} {f : AluFunc} {d : Dest} {c : Src} {dir : Direction} {r : MemReg} {m : Method}

/-- The decoder of an ALU form takes back the groups of an instruction of that form (R57). -/
theorem decodeAlu_groupBytes (hop : i.op = .alu f d c) (code : Byte) (rest : List Byte) :
    decodeAlu code f d c (groupBytes i.groups ++ rest) = .ok (i, rest) := by
  cases i <;> cases hop <;> simp [Instr.groups, decodeAlu]

/-- The decoder of a transfer takes back the groups of that transfer (R58). -/
theorem decodeMem_groupBytes (hop : i.op = .mem dir r m) (code : Byte) (rest : List Byte) :
    decodeMem code dir r m (groupBytes i.groups ++ rest) = .ok (i, rest) := by
  cases i <;> cases hop <;> simp [Instr.groups, decodeMem]

/-! #### The opcode of an instruction by its fields -/

theorem wellFormed_opcodeWith_alu (hop : i.op = .alu f d c) (pol : Config.MemRegPolarity) :
    i.wellFormed = true ∧ opcodeWith pol i = aluCode f d c := by
  cases i <;> cases hop <;> exact ⟨rfl, rfl⟩

theorem wellFormed_opcodeWith_mem (hop : i.op = .mem dir r m) (pol : Config.MemRegPolarity) :
    i.wellFormed = true ∧ opcodeWith pol i = memOpcode pol (Machine.memCode dir r m) := by
  cases i <;> cases hop <;> exact ⟨rfl, rfl⟩

end

/-- The branch of a type, by the bits 6:3 of its opcode and its target (R56, R66). -/
def branchInstr : BrType → BitVec 4 → Word → Instr
  | .bra => .bra
  | .brz => .brz
  | .bnz => .bnz
  | .blt => .blt
  | .ble => .ble
  | .bgt => .bgt
  | .bge => .bge
  | .br7 => .br7

theorem eq_branchInstr {i : Instr} {t : BrType} (hop : i.op = .br t) : ∃ b target, i = branchInstr t b target := by
  cases i <;> cases hop <;> exact ⟨_, _, rfl⟩

theorem decodeBr_eq (code : Byte) (t : BrType) : decodeBr code t = takeWord code (branchInstr t (aliasOf code)) := by
  cases t <;> rfl

theorem branchInstr_wellFormed (t : BrType) (b : BitVec 4) (target : Word) :
    (branchInstr t b target).wellFormed = branchBitsOk b := by
  cases t <;> rfl

theorem encodeWith_branchInstr (pol : Config.MemRegPolarity) (t : BrType) (b : BitVec 4) (target : Word) :
    encodeWith pol (branchInstr t b target) = branchOpcode b (brTypeBits t) :: groupBytes [.word target] := by
  cases t <;> rfl

/-! #### Decoding by the format of the opcode -/

theorem decodeWith_aluCode (pol : Config.MemRegPolarity) (f : AluFunc) (d : Dest) (c : Src) (bs : List Byte) :
    decodeWith pol (aluCode f d c :: bs) = decodeAlu (aluCode f d c) f d c bs := by
  cases f <;> cases d <;> cases c <;> rfl

theorem decodeWith_memOpcode (pol : Config.MemRegPolarity) (d : Direction) (r : MemReg) (m : Method) (bs : List Byte) :
    decodeWith pol (memOpcode pol (Machine.memCode d r m) :: bs) =
      decodeMem (memOpcode pol (Machine.memCode d r m)) d r m bs := by
  cases pol <;> cases d <;> cases r <;> cases m <;> rfl

/-- The fields of a branch opcode (R47, R56). -/
theorem fields_branchOpcode (t : BrType) {b : BitVec 4} (hb : branchBitsOk b = true) :
    family (branchOpcode b (brTypeBits t)) = .br ∧ typeOf (branchOpcode b (brTypeBits t)) = t ∧
      aliasOf (branchOpcode b (brTypeBits t)) = b := by
  revert b
  cases t <;> decide

theorem decodeWith_branchOpcode (pol : Config.MemRegPolarity) (t : BrType) {b : BitVec 4} (hb : branchBitsOk b = true)
    (bs : List Byte) :
    decodeWith pol (branchOpcode b (brTypeBits t) :: bs) =
      takeWord (branchOpcode b (brTypeBits t)) (branchInstr t b) bs := by
  obtain ⟨hf, ht, hb⟩ := fields_branchOpcode t hb
  simp only [decodeWith, hf, ht, decodeBr_eq, hb]

theorem memOpcode_memCode_of_family (pol : Config.MemRegPolarity) {code : Byte} (h : family code = .mem) :
    memOpcode pol (Machine.memCode (directionOf code) (memRegOf pol code) (methodOf code)) = code := by
  revert code
  cases pol <;> decide

theorem branchBitsOk_aliasOf {code : Byte} (h : family code = .br) : branchBitsOk (aliasOf code) = true := by
  revert code
  decide

/-- Every byte has one of the three formats, under either polarity (R47 to R56). -/
theorem opcode_format (pol : Config.MemRegPolarity) (code : Byte) :
    (∃ f d c, code = aluCode f d c) ∨ (∃ d r m, code = memOpcode pol (Machine.memCode d r m)) ∨
      ∃ t b, branchBitsOk b = true ∧ code = branchOpcode b (brTypeBits t) := by
  cases hf : family code with
  | alu => exact .inl ⟨_, _, _, (aluCode_of_family hf).symm⟩
  | mem => exact .inr (.inl ⟨_, _, _, (memOpcode_memCode_of_family pol hf).symm⟩)
  | br => exact .inr (.inr ⟨_, _, branchBitsOk_aliasOf hf, (branchOpcode_of_family hf).symm⟩)
  | unclassified => exact absurd hf (family_ne_unclassified code)

/-! #### The two directions -/

/-- Settles O1, by the format of the instruction's opcode. -/
theorem decodeOfEncodeIsIdentity : Obligations.DecodeOfEncodeIsIdentity := by
  unfold Obligations.DecodeOfEncodeIsIdentity
  intro pol i rest hwf
  cases hop : i.op with
  | alu f d c =>
    obtain ⟨_, hcode⟩ := wellFormed_opcodeWith_alu hop pol
    rw [encodeWith, hcode, List.cons_append, decodeWith_aluCode, decodeAlu_groupBytes hop]
  | mem d r m =>
    obtain ⟨_, hcode⟩ := wellFormed_opcodeWith_mem hop pol
    rw [encodeWith, hcode, List.cons_append, decodeWith_memOpcode, decodeMem_groupBytes hop]
  | br t =>
    obtain ⟨b, target, rfl⟩ := eq_branchInstr hop
    rw [branchInstr_wellFormed] at hwf
    rw [encodeWith_branchInstr, List.cons_append, decodeWith_branchOpcode pol t hwf]
    exact takeWord_eq_ok_iff.mpr ⟨target, rfl, rfl⟩

/-- Settles O2, by the format of the opcode byte. -/
theorem encodeOfDecodeIsIdentity : Obligations.EncodeOfDecodeIsIdentity := by
  unfold Obligations.EncodeOfDecodeIsIdentity
  intro pol bytes i rest h
  cases bytes with
  | nil => cases h
  | cons code bs =>
    rcases opcode_format pol code with ⟨f, d, c, rfl⟩ | ⟨d, r, m, rfl⟩ | ⟨t, b, hb, rfl⟩
    · rw [decodeWith_aluCode] at h
      obtain ⟨hop, rfl⟩ := decodeAlu_decodesOnly _ f d c _ _ _ h
      obtain ⟨hwf, hcode⟩ := wellFormed_opcodeWith_alu hop pol
      exact ⟨hwf, by rw [encodeWith, hcode, List.cons_append]⟩
    · rw [decodeWith_memOpcode] at h
      obtain ⟨hop, rfl⟩ := decodeMem_decodesOnly _ d r m _ _ _ h
      obtain ⟨hwf, hcode⟩ := wellFormed_opcodeWith_mem hop pol
      exact ⟨hwf, by rw [encodeWith, hcode, List.cons_append]⟩
    · rw [decodeWith_branchOpcode pol t hb] at h
      obtain ⟨target, rfl, rfl⟩ := takeWord_eq_ok_iff.mp h
      exact ⟨(branchInstr_wellFormed t b target).trans hb, by rw [encodeWith_branchInstr, List.cons_append]⟩

/-! #### Which bytes decode -/

/-- What decodes, decodes the same with more bytes after it: it is an encoding. -/
theorem decode_append {bytes rest : List Byte} {i : Instr} (h : decode bytes = .ok (i, rest)) (more : List Byte) :
    decode (bytes ++ more) = .ok (i, rest ++ more) := by
  obtain ⟨hwf, rfl⟩ := encodeOfDecodeIsIdentity _ _ _ _ h
  rw [List.append_assoc]
  exact decodeOfEncodeIsIdentity _ i _ hwf

/-- An opcode with too few bytes after it does not decode: with bytes appended up to the trailing count, some of these would be left over,
where `decode_takesExactly` leaves none. -/
theorem trailingCount_le_of_decode {code : Byte} {bs rest : List Byte} {i : Instr}
    (h : decode (code :: bs) = .ok (i, rest)) : trailingCount code ≤ bs.length := by
  by_contra hlt
  obtain ⟨more, hmore⟩ : ∃ more : List Byte, more.length = trailingCount code - bs.length :=
    ⟨List.replicate _ 0x00#8, List.length_replicate⟩
  obtain ⟨j, hj, _⟩ := decode_takesExactly code (bs ++ more) (by rw [List.length_append]; omega)
  have hleft := Except.ok.inj ((decode_append h more).symm.trans hj)
  have hnone : more = [] := (List.append_eq_nil_iff.mp (congrArg Prod.snd hleft)).2
  rw [hnone, List.length_nil] at hmore
  omega

/-- Settles O3: exactly the trailing count decodes, so more bytes decode too, and fewer do not. -/
theorem decodeFailsOnlyWhenBytesRunOut : Obligations.DecodeFailsOnlyWhenBytesRunOut := by
  unfold Obligations.DecodeFailsOnlyWhenBytesRunOut
  intro bytes
  constructor
  · rintro ⟨⟨i, rest⟩, h⟩
    cases bytes with
    | nil => cases h
    | cons code bs => exact ⟨code, bs, rfl, trailingCount_le_of_decode h⟩
  · rintro ⟨code, bs, rfl, hle⟩
    obtain ⟨i, hi, _⟩ := decode_takesExactly code (bs.take (trailingCount code)) (List.length_take_of_le hle)
    have h := decode_append hi (bs.drop (trailingCount code))
    rw [List.cons_append, List.take_append_drop] at h
    exact ⟨_, h⟩

/-- Settles O4, over the 256 opcodes. -/
theorem familiesSplitTheOpcodes : Obligations.FamiliesSplitTheOpcodes := by
  unfold Obligations.FamiliesSplitTheOpcodes
  decide

/-- Settles O5. -/
theorem specWordsDecode : Obligations.SpecWordsDecode := by
  unfold Obligations.SpecWordsDecode
  decide

end Sys2Proof

namespace Sys2Proof.Machine

/-! ### The encodings of a branch type (R66) -/

/-- `s` with another IR. -/
def State.withIr (s : State) (code : Byte) : State := { s with ir := code }

theorem latchGroups_withIr (gs : List Group) (s : State) (code : Byte) :
    (s.withIr code).latchGroups gs = (s.latchGroups gs).withIr code := by
  induction gs generalizing s with
  | nil => rfl
  | cons g gs ih => rw [latchGroups_cons, latchGroups_cons, ← ih]; cases g <;> rfl

/-- Fetches of the same groups differ only in IR (R75). -/
theorem fetchOf_eq_withIr {i j : Instr} (hg : i.groups = j.groups) (s : State) :
    fetchOf j s = (fetchOf i s).withIr j.opcode := by
  have h := latchGroups_withIr i.groups { s with ir := i.opcode } j.opcode
  unfold fetchOf State.fetched
  rw [← hg]
  exact congrArg (State.advance · (1 + (groupBytes i.groups).length)) h

/-- A branch does not look at IR (R66). -/
theorem branchResult_withIr (y : BrType) (u : State) (code : Byte) :
    branchResult y (u.withIr code) = (branchResult y u).withIr code :=
  (apply_ite (State.withIr · code) (branchCond y u.acc = true) (u.jump u.latch) u).symm

/-- Settles O6: both fetches latch the same target, and the branch does not look at IR. -/
theorem branchAliasesDifferOnlyInIr : Obligations.BranchAliasesDifferOnlyInIr := by
  unfold Obligations.BranchAliasesDifferOnlyInIr
  rintro i j s t u ⟨y, hi⟩ hop hg ht hu
  obtain rfl := eq_of_exec ht
  obtain rfl := eq_of_exec hu
  rw [← hop, hi, fetchOf_eq_withIr hg, opResult, opResult, branchResult_withIr]
  rfl

/-! ### Progress (R131) -/

/-- Settles O10: a fetched instruction always answers a next state, and a failed fetch answers the state with its error. -/
theorem everyStepWithoutErrorAnswersNext : Obligations.EveryStepWithoutErrorAnswersNext := by
  unfold Obligations.EveryStepWithoutErrorAnswersNext
  intro s he
  rcases step_cases s with ⟨hne, _⟩ | ⟨_, i, _, h⟩ | ⟨_, code, _, h⟩ | ⟨_, info, _, h⟩
  · exact absurd he hne
  · exact ⟨_, h.trans (exec_eq i s)⟩
  · exact ⟨_, h⟩
  · exact ⟨_, h⟩

end Sys2Proof.Machine

/-! ### The fetch and the step against the spec's pseudocode

Two facts carry this part. The fields of an instruction's opcode are those that select its execute operation (`hasFields_opcode`), and the
bytes after PC are the groups of the instruction that a fetch finds (`groupBytes_of_fetchInstr`). -/

namespace Sys2Proof

/-! #### The fields of an opcode, read back from the byte (R47 to R56) -/

/-- The classifier and the fields of R49 to R56 read `o` from the opcode byte. -/
def HasFields (code : Byte) : Op → Prop
  | .alu f d c => family code = .alu ∧ funcOf code = f ∧ destOf code = d ∧ srcOf code = c
  | .mem d r m =>
    family code = .mem ∧ directionOf code = d ∧ memRegOf Config.memRegPolarity code = r ∧ methodOf code = m
  | .br t => family code = .br ∧ typeOf code = t

theorem hasFields_aluCode (f : AluFunc) (d : Dest) (c : Src) : HasFields (aluCode f d c) (.alu f d c) := by
  cases f <;> cases d <;> cases c <;> exact ⟨rfl, rfl, rfl, rfl⟩

theorem hasFields_memCode (d : Direction) (r : MemReg) (m : Method) : HasFields (Machine.memCode d r m) (.mem d r m) := by
  cases d <;> cases r <;> cases m <;> exact ⟨rfl, rfl, rfl, rfl⟩

theorem branchInstr_opcode (t : BrType) (b : BitVec 4) (target : Word) :
    (branchInstr t b target).opcode = branchOpcode b (brTypeBits t) := by
  cases t <;> rfl

theorem branchInstr_groups (t : BrType) (b : BitVec 4) (target : Word) :
    (branchInstr t b target).groups = [.word target] := by
  cases t <;> rfl

/-- The opcode of an instruction has the fields that select its execute operation. -/
theorem hasFields_opcode {i : Instr} (hwf : i.wellFormed = true) : HasFields i.opcode i.op := by
  cases hop : i.op with
  | alu f d c =>
    have hcode : i.opcode = aluCode f d c := (wellFormed_opcodeWith_alu hop _).2
    exact hcode ▸ hasFields_aluCode f d c
  | mem d r m => exact Machine.opcode_eq_memCode hop ▸ hasFields_memCode d r m
  | br t =>
    obtain ⟨b, target, rfl⟩ := eq_branchInstr hop
    rw [branchInstr_wellFormed] at hwf
    obtain ⟨hf, ht, _⟩ := fields_branchOpcode t hwf
    rw [branchInstr_opcode]
    exact ⟨hf, ht⟩

/-- Only branches have the opcodes of the BR family, and their type is that of the opcode (R56). -/
theorem op_eq_br_iff {i : Instr} (hwf : i.wellFormed = true) {t : BrType} :
    i.op = .br t ↔ family i.opcode = .br ∧ typeOf i.opcode = t := by
  have hfields := hasFields_opcode hwf
  cases hop : i.op with
  | alu | mem =>
    rw [hop] at hfields
    obtain ⟨hfam, _⟩ := hfields
    simp [hfam]
  | br y =>
    rw [hop] at hfields
    obtain ⟨hfam, hy⟩ := hfields
    simp [hfam, hy]

/-! #### The trailing groups of an instruction by its opcode (R57 to R60) -/

/-- The number of bytes of a group (R46). -/
def Group.size : Group → Nat
  | .byte _ => 1
  | .word _ => 2

@[simp] theorem size_byte (v : Byte) : (Group.byte v).size = 1 := rfl
@[simp] theorem size_word (v : Word) : (Group.word v).size = 2 := rfl

theorem length_bytes (g : Group) : g.bytes.length = g.size := by cases g <;> rfl

theorem length_groupBytes (gs : List Group) : (groupBytes gs).length = (gs.map Group.size).sum := by
  induction gs with
  | nil => rfl
  | cons g gs ih => rw [groupBytes, List.length_append, length_bytes, ih, List.map_cons, List.sum_cons]

/-- The count of R60 is the sum of the groups of R57 to R59. -/
theorem trailingCount_eq_sum (code : Byte) :
    trailingCount code = (groupSizesWith Config.memRegPolarity code).sum := by
  revert code
  decide

/-- The groups that the opcode announces are the groups of the instruction (R57 to R59). -/
theorem groupSizes_opcode {i : Instr} (hwf : i.wellFormed = true) :
    groupSizesWith Config.memRegPolarity i.opcode = i.groups.map Group.size := by
  have hfields := hasFields_opcode hwf
  cases hop : i.op with
  | alu f d c =>
    rw [hop] at hfields
    obtain ⟨hfam, _, hd, hc⟩ := hfields
    simp only [groupSizesWith, hfam, hd, hc]
    cases i <;> cases hop <;> rfl
  | mem d r m =>
    rw [hop] at hfields
    obtain ⟨hfam, _, hr, hm⟩ := hfields
    simp only [groupSizesWith, hfam, hr, hm]
    cases i <;> cases hop <;> rfl
  | br t =>
    rw [hop] at hfields
    obtain ⟨hfam, _⟩ := hfields
    obtain ⟨b, target, rfl⟩ := eq_branchInstr hop
    simp only [groupSizesWith, hfam, branchInstr_groups]
    rfl

/-- The length of an instruction is the one its opcode gives (R60). -/
theorem length_eq_trailingCount {i : Instr} (hwf : i.wellFormed = true) : i.length = 1 + trailingCount i.opcode := by
  rw [Instr.length, length_groupBytes, trailingCount_eq_sum, groupSizes_opcode hwf]

/-- The four shapes of an instruction's trailing groups (R57 to R59). -/
theorem groups_cases (i : Instr) :
    i.groups = [] ∨ (∃ v, i.groups = [.byte v]) ∨ (∃ v, i.groups = [.word v]) ∨ ∃ v w, i.groups = [.word v, .word w] := by
  cases i <;> simp [Instr.groups]

end Sys2Proof

namespace Sys2Proof.Machine

/-! #### The outcome of a fetch by its bounds tests (R74, R77) -/

theorem fetchInstr_of_pcx {s : State} (hx : s.pcx = true) : fetchInstr s = .outOfBounds 0x10000#17 := if_pos hx

theorem fetchInstr_of_pastTop {s : State} (hx : s.pcx = false)
    (hb : s.pc.toNat + trailingCount (s.byteAt s.pc) > 0xFFFF) : fetchInstr s = .outOfBounds (s.pc.setWidth 17) := by
  simp [fetchInstr, hx, hb]

/-- Settles O11, by the PCX test. -/
theorem fetchWithCarryRaisesOutOfBounds : Obligations.FetchWithCarryRaisesOutOfBounds := by
  unfold Obligations.FetchWithCarryRaisesOutOfBounds
  intro s he hx
  exact step_of_outOfBounds he (fetchInstr_of_pcx hx)

/-- Settles O12, by the test of the trailing bytes. -/
theorem fetchPastTopRaisesOutOfBounds : Obligations.FetchPastTopRaisesOutOfBounds := by
  unfold Obligations.FetchPastTopRaisesOutOfBounds
  intro s he hx hb
  exact step_of_outOfBounds he (fetchInstr_of_pastTop hx hb)

/-- A fetch finds the instruction whose encoding stands at PC, where it fits (R73, R46). -/
theorem fetchInstr_of_encode {i : Instr} {s : State} (hx : s.pcx = false) (hwf : i.wellFormed = true)
    (hb : s.pc.toNat + i.length ≤ 0x10000) (hbytes : bytesFrom s.mem s.pc.toNat i.length = encode i) :
    fetchInstr s = .instr i := by
  have hcode : s.byteAt s.pc = i.opcode := by
    rw [Instr.length, bytesFrom_one_add] at hbytes
    exact (List.cons.inj hbytes).1
  have hlen : i.length = 1 + trailingCount (s.byteAt s.pc) := hcode ▸ length_eq_trailingCount hwf
  have hdec : decode (encode i) = .ok (i, []) := by
    have h := decodeOfEncodeIsIdentity Config.memRegPolarity i [] hwf
    rwa [List.append_nil] at h
  have hfits : ¬s.pc.toNat + trailingCount (s.byteAt s.pc) > 0xFFFF := by omega
  simp only [fetchInstr, hx, Bool.false_eq_true, if_false, hfits, ← hlen, hbytes, hdec]

/-- Settles O7: the fetch finds the instruction, and the step executes it. -/
theorem stepRunsDecodedInstruction : Obligations.StepRunsDecodedInstruction := by
  unfold Obligations.StepRunsDecodedInstruction
  intro i s he hx hwf hb hbytes
  exact step_of_fetchInstr he (fetchInstr_of_encode hx hwf hb hbytes)

/-! #### The instruction that a successful fetch finds -/

theorem bytesFrom_getElem? (m : Memory) (a : Nat) {n k : Nat} (hk : k < n) :
    (bytesFrom m a n)[k]? = some (Memory.lookup m (a + k)) := by
  induction n generalizing a k with
  | zero => exact absurd hk (Nat.not_lt_zero k)
  | succ n ih =>
    cases k with
    | zero => rfl
    | succ k =>
      rw [bytesFrom_succ, List.getElem?_cons_succ, ih _ (Nat.lt_of_succ_lt_succ hk)]
      congr 2
      omega

section
variable {i : Instr} {s : State} (hf : fetchInstr s = .instr i)
include hf

theorem wellFormed_of_fetchInstr : i.wellFormed = true := by
  rcases fetchInstr_cases s with ⟨_, h⟩ | ⟨_, _, h⟩ | ⟨_, _, j, rest, hd, h⟩ | ⟨_, _, e, _, h⟩ <;> cases hf.symm.trans h
  exact (encodeOfDecodeIsIdentity _ _ _ _ hd).1

/-- The bytes after PC are those of the instruction's groups (R78 to R80). -/
theorem groupBytes_of_fetchInstr :
    groupBytes i.groups = bytesFrom s.mem (s.pc.toNat + 1) (trailingCount (s.byteAt s.pc)) := by
  obtain ⟨_, _, hlen, he⟩ := encode_of_fetchInstr hf
  rw [hlen, bytesFrom_one_add] at he
  exact (List.cons.inj he).2

theorem length_groupBytes_of_fetchInstr : (groupBytes i.groups).length = trailingCount (s.byteAt s.pc) := by
  rw [groupBytes_of_fetchInstr hf, bytesFrom_length]

/-- A byte of the groups is the one as many places after the opcode, which lies inside memory. -/
theorem groupBytes_getElem? {k : Nat} {b : Byte} (hk : (groupBytes i.groups)[k]? = some b) :
    b = s.byteAt (s.pc + BitVec.ofNat 16 (k + 1)) := by
  obtain ⟨_, hb, hlen, _⟩ := encode_of_fetchInstr hf
  have hlt : k < trailingCount (s.byteAt s.pc) := by
    rw [← length_groupBytes_of_fetchInstr hf]
    exact (List.getElem?_eq_some_iff.mp hk).1
  rw [groupBytes_of_fetchInstr hf, bytesFrom_getElem? _ _ hlt] at hk
  rw [byteAt_add (by omega), ← Option.some.inj hk]
  congr 1
  omega

end

/-- A step that does not end in OutOfBounds has fetched an instruction and executed it (R131, R145). -/
theorem exists_fetchInstr_of_step {s t : State} (he : s.err = .none) (hst : step s = .next t)
    (ht : t.err ≠ .outOfBounds) : ∃ i, fetchInstr s = .instr i ∧ t = opResult i.op (fetchOf i s) := by
  rcases step_cases s with ⟨hne, _⟩ | ⟨_, i, hf, h⟩ | ⟨_, code, hf, _⟩ | ⟨_, info, _, h⟩
  · exact absurd he hne
  · exact ⟨i, hf, eq_of_exec (h.symm.trans hst)⟩
  · exact absurd hf (fetchInstr_ne_unclassified s code)
  · cases h.symm.trans hst
    exact absurd rfl ht

/-! #### The pseudocode's fetch (R73) -/

/-- Reading the groups' sizes from memory latches the groups whose bytes stand there (R78 to R80). -/
theorem pseudoLatch_eq_latchGroups (gs : List Group) (s : State) (a : Nat)
    (h : groupBytes gs = bytesFrom s.mem a (groupBytes gs).length) :
    pseudoLatch s a (gs.map Group.size) = s.latchGroups gs := by
  induction gs generalizing s a with
  | nil => rfl
  | cons g gs ih =>
    cases g with
    | byte v =>
      obtain ⟨hv, hrest⟩ := List.cons.inj h
      rw [List.map_cons, size_byte, pseudoLatch, ← hv]
      · exact ih _ (a + 1) hrest
      · decide
    | word v =>
      obtain ⟨hhi, htail⟩ := List.cons.inj h
      obtain ⟨hlo, hrest⟩ := List.cons.inj htail
      rw [List.map_cons, size_word, pseudoLatch, ← hhi, ← hlo]
      exact ih _ (a + 2) hrest

theorem latchGroups_pc (gs : List Group) (s : State) : (s.latchGroups gs).pc = s.pc := by rw [latchGroups_frame]

/-- The pseudocode's write of PC and PCX is the advance past the instruction (R81). -/
theorem setPc_eq_advance {s : State} {p : Word} (hp : s.pc = p) (n : Nat) :
    { s with pc := BitVec.ofNat 16 (p.toNat + 1 + n), pcx := decide (p.toNat + 1 + n = 0x10000) } =
      s.advance (1 + n) := by
  subst hp
  rw [State.advance, Nat.add_assoc, BitVec.ofNat_add, BitVec.ofNat_toNat, BitVec.setWidth_eq]

/-- The pseudocode's fetch leaves what the fetch of the instruction found leaves. -/
theorem pseudoFetch_of_instr {i : Instr} {s : State} (hf : fetchInstr s = .instr i) :
    pseudoFetch s = .ok (fetchOf i s) := by
  obtain ⟨hx, hb, hlen, _⟩ := encode_of_fetchInstr hf
  have hcode := opcode_of_fetchInstr hf
  have hcount := length_groupBytes_of_fetchInstr hf
  have hlatch : pseudoLatch { s with ir := i.opcode } (s.pc.toNat + 1) (groupSizesWith Config.memRegPolarity i.opcode) =
      State.latchGroups { s with ir := i.opcode } i.groups := by
    rw [groupSizes_opcode (wellFormed_of_fetchInstr hf)]
    exact pseudoLatch_eq_latchGroups _ _ _ (hcount ▸ groupBytes_of_fetchInstr hf)
  have hfits : ¬s.pc.toNat + trailingCount i.opcode > 0xFFFF := by rw [hcode]; omega
  have hread : Memory.lookup s.mem s.pc.toNat = i.opcode := hcode.symm
  rw [pseudoFetch, if_neg (by simp [hx])]
  dsimp only
  rw [hread, if_neg hfits, hlatch, setPc_eq_advance (latchGroups_pc _ _), hcode, ← hcount, ← hcode]
  rfl

/-- The pseudocode's fetch fails where `fetchInstr` does, with the same error (R74, R77). -/
theorem pseudoFetch_of_outOfBounds {s : State} {info : ErrInfo} (hf : fetchInstr s = .outOfBounds info) :
    pseudoFetch s = .error (s.raise .outOfBounds info) := by
  rcases fetchInstr_cases s with ⟨hx, h⟩ | ⟨hx, hb, h⟩ | ⟨_, _, i, _, _, h⟩ | ⟨_, _, e, _, h⟩ <;>
    cases hf.symm.trans h
  · exact if_pos hx
  · have hb' : s.pc.toNat + trailingCount (Memory.lookup s.mem s.pc.toNat) > 0xFFFF := hb
    simp only [pseudoFetch, hx, Bool.false_eq_true, if_false, hb', if_true, BitVec.ofNat_toNat]

/-! #### The pseudocode's execute (R128) -/

/-- The pseudocode executes the operation whose fields IR has (R128). -/
theorem pseudoExecute_of_hasFields {o : Op} {u : State} (h : HasFields u.ir o) : pseudoExecute u = opResult o u := by
  cases o with
  | alu f d c =>
    obtain ⟨hfam, rfl, rfl, rfl⟩ := h
    simp only [pseudoExecute, hfam]
    rfl
  | mem d r m =>
    obtain ⟨hfam, rfl, rfl, rfl⟩ := h
    simp only [pseudoExecute, hfam]
    cases directionOf u.ir <;> rfl
  | br y =>
    obtain ⟨hfam, rfl⟩ := h
    simp only [pseudoExecute, hfam]
    rfl

/-- Settles O8: both fetches find or fail alike, and after a successful one IR has the fields of the instruction found. -/
theorem stepEqualsSpecPseudocode : Obligations.StepEqualsSpecPseudocode := by
  unfold Obligations.StepEqualsSpecPseudocode
  intro s
  rcases step_cases s with ⟨hne, h⟩ | ⟨he, i, hf, h⟩ | ⟨_, code, hf, _⟩ | ⟨he, info, hf, h⟩
  · rw [h, pseudoStep, if_neg hne]
  · have hfields : HasFields (fetchOf i s).ir i.op := by
      rw [fetchOf_ir]
      exact hasFields_opcode (wellFormed_of_fetchInstr hf)
    rw [h, exec_eq, pseudoStep, if_pos he, pseudoFetch_of_instr hf, ← pseudoExecute_of_hasFields hfields]
  · exact absurd hf (fetchInstr_ne_unclassified s code)
  · rw [h, pseudoStep, if_pos he, pseudoFetch_of_outOfBounds hf]

/-! #### What a successful fetch leaves in IR, the latch and PC -/

/-- Settles O13: no execute phase writes IR. -/
theorem successfulFetchLeavesOpcodeInIr : Obligations.SuccessfulFetchLeavesOpcodeInIr := by
  unfold Obligations.SuccessfulFetchLeavesOpcodeInIr
  intro s t he hst ht
  obtain ⟨i, hf, rfl⟩ := exists_fetchInstr_of_step he hst ht
  rw [opResult_ir, fetchOf_ir, opcode_of_fetchInstr hf]

/-- The latch after a fetch is the latch after its groups, whatever IR is (R78). -/
theorem fetchOf_latch (i : Instr) (s : State) :
    (fetchOf i s).msb = (s.latchGroups i.groups).msb ∧ (fetchOf i s).lsb = (s.latchGroups i.groups).lsb :=
  have h := latchGroups_withIr i.groups s i.opcode
  ⟨(congrArg State.msb h :), (congrArg State.lsb h :)⟩

/-- Settles O15, by the shape of the trailing groups; no execute phase writes the latch. -/
theorem fetchLatchesTrailingBytes : Obligations.FetchLatchesTrailingBytes := by
  unfold Obligations.FetchLatchesTrailingBytes
  intro s t he hst ht
  obtain ⟨i, hf, rfl⟩ := exists_fetchInstr_of_step he hst ht
  have hbyte : ∀ k b, (groupBytes i.groups)[k]? = some b → b = s.byteAt (s.pc + BitVec.ofNat 16 (k + 1)) :=
    fun _ _ => groupBytes_getElem? hf
  obtain ⟨hmsb, hlsb⟩ := fetchOf_latch i s
  rw [opResult_msb, opResult_lsb, hmsb, hlsb, ← length_groupBytes_of_fetchInstr hf]
  rcases groups_cases i with hg | ⟨v, hg⟩ | ⟨v, hg⟩ | ⟨v, w, hg⟩ <;> rw [hg] at hbyte ⊢
  · exact .inl ⟨rfl, rfl, rfl⟩
  · exact .inr (.inl ⟨rfl, hbyte 0 _ rfl, rfl⟩)
  · exact .inr (.inr (.inl ⟨rfl, hbyte 0 _ rfl, hbyte 1 _ rfl⟩))
  · exact .inr (.inr (.inr ⟨rfl, hbyte 2 _ rfl, hbyte 3 _ rfl⟩))

/-- Settles O14: of the four counts of O15 a branch opcode has 2. -/
theorem branchFetchLatchesTarget : Obligations.BranchFetchLatchesTarget := by
  unfold Obligations.BranchFetchLatchesTarget
  intro s t he hfam hst ht
  have h2 : trailingCount (s.byteAt s.pc) = 2 := by simp only [trailingCount, trailingCountWith, hfam]
  rcases fetchLatchesTrailingBytes s t he hst ht with ⟨hn, _⟩ | ⟨hn, _⟩ | ⟨_, hlatch⟩ | ⟨hn, _⟩
  case inr.inr.inl => exact hlatch
  all_goals omega

/-- Only a branch whose condition holds moves PC after the fetch (R127). -/
theorem opResult_pc_of_not_taken {o : Op} {u : State} (h : ∀ y, o = .br y → branchCond y u.acc = false) :
    (opResult o u).pc = u.pc ∧ (opResult o u).pcx = u.pcx := by
  cases o with
  | alu f d c => cases d <;> exact ⟨rfl, rfl⟩
  | mem d r m => cases d <;> cases r <;> cases m <;> exact ⟨rfl, rfl⟩
  | br y =>
    rcases branchResult_cases y u with ⟨htaken, _⟩ | ⟨_, hres⟩
    · cases htaken.symm.trans (h y rfl)
    · rw [opResult, hres]
      exact ⟨rfl, rfl⟩

/-- A branch whose condition holds jumps to the address in the latch it leaves (R117). -/
theorem opResult_br_of_taken {y : BrType} {u : State} (h : branchCond y u.acc = true) :
    opResult (.br y) u = u.jump u.latch := if_pos h

/-- Settles O16: a taken branch jumps to the target its fetch latched, and PC stays as the fetch left it otherwise. -/
theorem pcFallsThroughOrTakesTheBranch : Obligations.PcFallsThroughOrTakesTheBranch := by
  unfold Obligations.PcFallsThroughOrTakesTheBranch
  intro s t he hst ht
  have htarget := branchFetchLatchesTarget s t he
  obtain ⟨i, hf, rfl⟩ := exists_fetchInstr_of_step he hst ht
  have hbr (y : BrType) := op_eq_br_iff (wellFormed_of_fetchInstr hf) (t := y)
  simp only [opcode_of_fetchInstr hf] at hbr
  split
  next h =>
    obtain ⟨hfam, hcond⟩ := h
    obtain ⟨hmsb, hlsb⟩ := htarget hfam hst ht
    rw [← hmsb, ← hlsb, opResult_msb, opResult_lsb, (hbr _).mpr ⟨hfam, rfl⟩,
      opResult_br_of_taken ((fetchOf_acc i s).symm ▸ hcond)]
    exact ⟨rfl, rfl⟩
  next h =>
    have hnot : ∀ y, i.op = .br y → branchCond y (fetchOf i s).acc = false := by
      intro y hop
      obtain ⟨hfam, rfl⟩ := (hbr y).mp hop
      rw [fetchOf_acc]
      simpa [hfam] using h
    obtain ⟨hpc, hpcx⟩ := opResult_pc_of_not_taken hnot
    have hlen := length_groupBytes_of_fetchInstr hf
    rw [hpc, hpcx, fetchOf, fetched_pc, fetched_pcx, hlen, decide_eq_true_iff, Nat.add_assoc]
    exact ⟨rfl, Iff.rfl⟩

end Sys2Proof.Machine

/-! ### What an ALU instruction answers, form by form (R84 to R100)

The eight functions share one table of the 16 operand forms, `aluAnswer`. It takes constants and addresses from the instruction itself;
`exec_alu` says that `exec`, which finds them in the latch, answers by it. The result of a function is then the table at that function. -/

namespace Sys2Proof.Machine

/-! #### The operand rules, an equation for each width that occurs (R86 to R89) -/

section
variable (s : State) (r : Byte) (v : Word)

@[simp] theorem readDest_ind_w8 : readDest .ind .w8 s = s.byteAt s.mar := rfl
@[simp] theorem readDest_ind_w16 : readDest .ind .w16 s = s.wordAt s.mar := rfl
@[simp] theorem readDest_acc_w8 : readDest .acc .w8 s = s.acc := BitVec.setWidth_eq s.acc
@[simp] theorem readDest_mar_w8 : readDest .mar .w8 s = loByte s.mar := BitVec.setWidth_eq_extractLsb' (by decide)
@[simp] theorem readDest_mar_w16 : readDest .mar .w16 s = s.mar := BitVec.setWidth_eq s.mar
@[simp] theorem readDest_abs_w8 : readDest .abs .w8 s = s.byteAt s.latch := rfl
@[simp] theorem readDest_abs_w16 : readDest .abs .w16 s = s.wordAt s.latch := rfl

@[simp] theorem readSrc_ind_w8 : readSrc .ind .w8 s = s.byteAt s.mar := rfl
@[simp] theorem readSrc_ind_w16 : readSrc .ind .w16 s = s.wordAt s.mar := rfl
@[simp] theorem readSrc_acc_w8 : readSrc .acc .w8 s = s.acc := BitVec.setWidth_eq s.acc
@[simp] theorem readSrc_imm_w8 : readSrc .imm .w8 s = s.msb := rfl
@[simp] theorem readSrc_imm_w16 : readSrc .imm .w16 s = s.latch := rfl
@[simp] theorem readSrc_abs_w8 : readSrc .abs .w8 s = s.byteAt s.latch := rfl
@[simp] theorem readSrc_abs_w16 : readSrc .abs .w16 s = s.wordAt s.latch := rfl

@[simp] theorem saveResult_ind_w8 : saveResult .ind .w8 r s = s.store .w8 s.mar r := rfl
@[simp] theorem saveResult_ind_w16 : saveResult .ind .w16 v s = s.store .w16 s.mar v := rfl
@[simp] theorem saveResult_acc_w8 : saveResult .acc .w8 r s = s.setAcc r := congrArg s.setAcc (BitVec.setWidth_eq r)
@[simp] theorem saveResult_mar_w8 : saveResult .mar .w8 r s = s.setMar (joinBytes 0x00#8 r) := rfl
@[simp] theorem saveResult_mar_w16 : saveResult .mar .w16 v s = s.setMar v := rfl
@[simp] theorem saveResult_abs_w8 : saveResult .abs .w8 r s = s.store .w8 s.latch r := rfl
@[simp] theorem saveResult_abs_w16 : saveResult .abs .w16 v s = s.store .w16 s.latch v := rfl

end

section
variable {f : AluFunc} {d : Dest} {c : Src} {u : State}

theorem aluResult_of_w8 (h : aluWidth d c = .w8) :
    aluResult f d c u = saveResult d .w8 (compute f (readDest d .w8 u) (readSrc c .w8 u)) u := by
  rw [aluResult, h]

theorem aluResult_of_w16 (h : aluWidth d c = .w16) :
    aluResult f d c u = saveResult d .w16 (compute f (readDest d .w16 u) (readSrc c .w16 u)) u := by
  rw [aluResult, h]

end

/-! #### The operands an instruction carries, and the latch that its fetch leaves (R57, R78 to R80) -/

/-- What the trailing bytes of an ALU form can hold; each form takes its own of them. -/
structure AluOperands where
  /-- The destination address. -/
  dst : Word
  /-- The constant of a 16-bit operation. -/
  imm : Word
  /-- The source address. -/
  src : Word
  /-- The constant of an 8-bit operation. -/
  imm8 : Byte

/-- The trailing groups of a form: the destination address, then the source, whose constant has the width of the operation (R57, R59). -/
def AluOperands.groups (x : AluOperands) : Dest → Src → List Group
  | .abs, .imm => [.word x.dst, .word x.imm]
  | .abs, .abs => [.word x.dst, .word x.src]
  | .abs, _ => [.word x.dst]
  | .acc, .imm => [.byte x.imm8]
  | _, .imm => [.word x.imm]
  | _, .abs => [.word x.src]
  | _, _ => []

@[simp] theorem fetched_byte_msb (s : State) (code v : Byte) : (s.fetched code [.byte v]).msb = v := rfl

@[simp] theorem fetched_word_latch (s : State) (code : Byte) (v : Word) : (s.fetched code [.word v]).latch = v :=
  joinBytes_hiByte_loByte v

/-- Of two 2-byte groups the latch keeps the second (R78, D6). -/
@[simp] theorem fetched_word_word_latch (s : State) (code : Byte) (v w : Word) :
    (s.fetched code [.word v, .word w]).latch = w := joinBytes_hiByte_loByte w

/-! #### The table -/

/-- What function `f` makes of the state `u` that the fetch left, in each form (R84 to R90). In the forms with two groups the source group
is the destination address as well (R90). -/
def aluAnswer (f : AluFunc) (x : AluOperands) (u : State) : Dest → Src → State
  | .ind, .ind => u.store .w16 u.mar (compute f (u.wordAt u.mar) (u.wordAt u.mar))
  | .ind, .acc => u.store .w8 u.mar (compute f (u.byteAt u.mar) u.acc)
  | .ind, .imm => u.store .w16 u.mar (compute f (u.wordAt u.mar) x.imm)
  | .ind, .abs => u.store .w16 u.mar (compute f (u.wordAt u.mar) (u.wordAt x.src))
  | .acc, .ind => u.setAcc (compute f u.acc (u.byteAt u.mar))
  | .acc, .acc => u.setAcc (compute f u.acc u.acc)
  | .acc, .imm => u.setAcc (compute f u.acc x.imm8)
  | .acc, .abs => u.setAcc (compute f u.acc (u.byteAt x.src))
  | .mar, .ind => u.setMar (compute f u.mar (u.wordAt u.mar))
  | .mar, .acc => u.setMar (joinBytes 0x00#8 (compute f (loByte u.mar) u.acc))
  | .mar, .imm => u.setMar (compute f u.mar x.imm)
  | .mar, .abs => u.setMar (compute f u.mar (u.wordAt x.src))
  | .abs, .ind => u.store .w16 x.dst (compute f (u.wordAt x.dst) (u.wordAt u.mar))
  | .abs, .acc => u.store .w8 x.dst (compute f (u.byteAt x.dst) u.acc)
  | .abs, .imm => u.store .w16 x.imm (compute f (u.wordAt x.imm) x.imm)
  | .abs, .abs => u.store .w16 x.src (compute f (u.wordAt x.src) (u.wordAt x.src))

/-- After its fetch each form finds in the latch the operands the table names: the width rules and the latch laws, form by form. -/
theorem aluResult_fetched (f : AluFunc) (x : AluOperands) (code : Byte) (s : State) (d : Dest) (c : Src) :
    aluResult f d c (s.fetched code (x.groups d c)) = aluAnswer f x (s.fetched code (x.groups d c)) d c := by
  cases d <;> cases c <;>
    simp [AluOperands.groups, aluResult_of_w8, aluResult_of_w16, aluWidth, aluAnswer]

/-- Every ALU instruction answers by the table. -/
theorem exec_alu {i : Instr} {f : AluFunc} {d : Dest} {c : Src} (x : AluOperands) (s : State) (hop : i.op = .alu f d c)
    (hg : i.groups = x.groups d c) : exec i s = .next (aluAnswer f x (fetchOf i s) d c) := by
  rw [exec_eq, hop, opResult, fetchOf, hg, aluResult_fetched]

/-! #### The eight functions -/

/-- Settles O21: the table at `AND`. -/
theorem andResultInEveryForm : Obligations.AndResultInEveryForm := by
  unfold Obligations.AndResultInEveryForm
  intro s dst imm src imm8
  and_intros <;> exact (exec_alu ⟨dst, imm, src, imm8⟩ s rfl rfl).trans rfl

/-- Settles O22: the table at `OR`. -/
theorem orResultInEveryForm : Obligations.OrResultInEveryForm := by
  unfold Obligations.OrResultInEveryForm
  intro s dst imm src imm8
  and_intros <;> exact (exec_alu ⟨dst, imm, src, imm8⟩ s rfl rfl).trans rfl

/-- Settles O23: the table at `XOR`. -/
theorem xorResultInEveryForm : Obligations.XorResultInEveryForm := by
  unfold Obligations.XorResultInEveryForm
  intro s dst imm src imm8
  and_intros <;> exact (exec_alu ⟨dst, imm, src, imm8⟩ s rfl rfl).trans rfl

/-- Settles O24: the table at `ADD`. -/
theorem addResultInEveryForm : Obligations.AddResultInEveryForm := by
  unfold Obligations.AddResultInEveryForm
  intro s dst imm src imm8
  and_intros <;> exact (exec_alu ⟨dst, imm, src, imm8⟩ s rfl rfl).trans rfl

/-- Settles O25: the table at `SUB`. -/
theorem subResultInEveryForm : Obligations.SubResultInEveryForm := by
  unfold Obligations.SubResultInEveryForm
  intro s dst imm src imm8
  and_intros <;> exact (exec_alu ⟨dst, imm, src, imm8⟩ s rfl rfl).trans rfl

/-- Settles O26: the table at `INC`. -/
theorem incResultInEveryForm : Obligations.IncResultInEveryForm := by
  unfold Obligations.IncResultInEveryForm
  intro s dst imm src imm8
  and_intros <;> exact (exec_alu ⟨dst, imm, src, imm8⟩ s rfl rfl).trans rfl

/-- Settles O27: the table at `DEC`. -/
theorem decResultInEveryForm : Obligations.DecResultInEveryForm := by
  unfold Obligations.DecResultInEveryForm
  intro s dst imm src imm8
  and_intros <;> exact (exec_alu ⟨dst, imm, src, imm8⟩ s rfl rfl).trans rfl

/-- Settles O28: the table at `NOT`. -/
theorem notResultInEveryForm : Obligations.NotResultInEveryForm := by
  unfold Obligations.NotResultInEveryForm
  intro s dst imm src imm8
  and_intros <;> exact (exec_alu ⟨dst, imm, src, imm8⟩ s rfl rfl).trans rfl

/-! #### Two ALU instructions -/

/-- Settles O33: both fetches leave the opcode of the form in IR and the source group in the latch. -/
theorem twoGroupFormsIgnoreDestinationAddress : Obligations.TwoGroupFormsIgnoreDestinationAddress := by
  unfold Obligations.TwoGroupFormsIgnoreDestinationAddress
  intro i j f c d d' g s hi hj hgi hgj
  obtain ⟨_, hcode⟩ := wellFormed_opcodeWith_alu hi Config.memRegPolarity
  obtain ⟨_, hcode'⟩ := wellFormed_opcodeWith_alu hj Config.memRegPolarity
  have hfetch : fetchOf i s = fetchOf j s := by
    rw [fetchOf, fetchOf, Instr.opcode, Instr.opcode, hcode, hcode', hgi, hgj]
    rfl
  rw [exec_eq, exec_eq, hi, hj, hfetch]

/-! Three forms of NOT as one write after the fetch (R99), from the table; two of them carry no operand and one the constant. -/

theorem exec_notAccAcc (s : State) : exec .notAccAcc s = .next ((fetchOf .notAccAcc s).setAcc (~~~s.acc)) :=
  (exec_alu ⟨0, 0, 0, 0⟩ s rfl rfl).trans rfl

theorem exec_notMarImm (imm : Word) (s : State) :
    exec (.notMarImm imm) s = .next ((fetchOf (.notMarImm imm) s).setMar (~~~s.mar)) :=
  (exec_alu ⟨0, imm, 0, 0⟩ s rfl rfl).trans rfl

theorem exec_notIndInd (s : State) :
    exec .notIndInd s = .next ((fetchOf .notIndInd s).store .w16 s.mar (~~~s.wordAt s.mar)) :=
  (exec_alu ⟨0, 0, 0, 0⟩ s rfl rfl).trans rfl

/-- NOT [MAR],[MAR] complements the word at MAR and keeps MAR, in memory that stays canonical. -/
theorem wordAt_of_exec_notIndInd {s t : State} (hs : Memory.wf s.mem = true) (h : exec .notIndInd s = .next t) :
    t.wordAt s.mar = ~~~s.wordAt s.mar ∧ t.mar = s.mar ∧ Memory.wf t.mem = true := by
  cases (exec_notIndInd s).symm.trans h
  have hu : Memory.wf (fetchOf .notIndInd s).mem = true := by rwa [fetchOf_mem]
  exact ⟨readWord_writeWord_same hu s.mar _, fetchOf_mar _ s, writeWord_wf hu s.mar _⟩

/-- Settles O32: each of the three complements its destination, so the second restores it. -/
theorem notTwiceRestoresDestination : Obligations.NotTwiceRestoresDestination := by
  unfold Obligations.NotTwiceRestoresDestination
  intro s t u imm imm'
  refine ⟨fun ht hu => ?_, fun ht hu => ?_, fun hs ht hu => ?_⟩
  · cases (exec_notAccAcc s).symm.trans ht
    cases (exec_notAccAcc _).symm.trans hu
    exact BitVec.not_not
  · cases (exec_notMarImm imm s).symm.trans ht
    cases (exec_notMarImm imm' _).symm.trans hu
    exact BitVec.not_not
  · obtain ⟨hword, hmar, hwf⟩ := wordAt_of_exec_notIndInd hs ht
    obtain ⟨hword', _⟩ := wordAt_of_exec_notIndInd hwf hu
    calc u.wordAt s.mar = ~~~t.wordAt s.mar := hmar ▸ hword'
      _ = ~~~(~~~s.wordAt s.mar) := by rw [hword]
      _ = s.wordAt s.mar := BitVec.not_not

end Sys2Proof.Machine

/-! ### What a memory transfer answers (R103 to R116)

A load is one register write after its fetch, a store one write to memory, an error form the error alone. For the frames this is said once
over the fields of the opcode; for the complete effects each defined load and store has an equation of its own. -/

namespace Sys2Proof.Machine

section
variable {i : Instr} {s t : State}

/-- A load by a defined method is one write of its register after its fetch (R104 to R109). -/
theorem exec_load_cases {r : MemReg} {m : Method} (hop : i.op = .mem .load r m) (hm : m ≠ .undef)
    (h : exec i s = .next t) :
    (r = .acc ∧ ∃ v, t = (fetchOf i s).setAcc v) ∨ (r = .mar ∧ ∃ v, t = (fetchOf i s).setMar v) := by
  obtain rfl := eq_of_exec h
  rw [hop]
  cases r with
  | acc =>
    cases m with
    | undef => exact absurd rfl hm
    | abs | imm | ind => exact .inl ⟨rfl, _, rfl⟩
  | mar =>
    cases m with
    | undef => exact absurd rfl hm
    | abs | imm | ind => exact .inr ⟨rfl, _, rfl⟩

/-- A store by a method that names an address is one write there after its fetch, of a word only if the register is MAR (R110 to R113). -/
theorem exec_store_exists {r : MemReg} {m : Method} {addr : Word} (hop : i.op = .mem .store r m)
    (haddr : m = .abs ∧ addr = placeAddr .absolute (fetchOf i s) ∨ m = .ind ∧ addr = placeAddr .viaMar (fetchOf i s))
    (h : exec i s = .next t) : ∃ w v, (w = .w16 → r = .mar) ∧ t = (fetchOf i s).store w addr v := by
  obtain rfl := eq_of_exec h
  rw [hop]
  cases r with
  | acc => obtain ⟨rfl, rfl⟩ | ⟨rfl, rfl⟩ := haddr <;> exact ⟨.w8, _, nofun, rfl⟩
  | mar => obtain ⟨rfl, rfl⟩ | ⟨rfl, rfl⟩ := haddr <;> exact ⟨.w16, _, fun _ => rfl, rfl⟩

end

/-- An error form raises UnresolvedAddress with its opcode after its fetch, and nothing else (R114, R115, R141). -/
theorem exec_of_isErrorForm {i : Instr} (hi : i.isErrorForm) (s : State) :
    exec i s = .next ((fetchOf i s).raise .unresolvedAddress (i.opcode.setWidth 17)) := by
  rw [exec_eq, ← fetchOf_ir i s]
  obtain ⟨r, hop⟩ | ⟨d, r, hop⟩ := hi <;> rw [hop]
  · cases r <;> rfl
  · cases d <;> cases r <;> rfl

/-! #### Frames -/

/-- Settles O39: a write of the loaded register after the fetch. -/
theorem loadFormsFrame : Obligations.LoadFormsFrame := by
  unfold Obligations.LoadFormsFrame
  intro i r m s t hop hm h
  obtain ⟨rfl, v, rfl⟩ | ⟨rfl, v, rfl⟩ := exec_load_cases hop hm h
  · refine ⟨fetchOf_byteAt i s, fetchOf_msb_of_length_eq_one s, fetchOf_lsb_of_length_le_two s, fun _ => ?_, nofun⟩
    rw [fetchOf_eq]; rfl
  · refine ⟨fetchOf_byteAt i s, fetchOf_msb_of_length_eq_one s, fetchOf_lsb_of_length_le_two s, nofun, fun _ => ?_⟩
    rw [fetchOf_eq]; rfl

/-- Settles O40: a store after the fetch, which leaves every byte outside its cells. -/
theorem storeFormsFrame : Obligations.StoreFormsFrame := by
  unfold Obligations.StoreFormsFrame
  intro i r m s t addr hop haddr h
  obtain ⟨w, v, hw, rfl⟩ := exec_store_exists hop haddr h
  refine ⟨?_, fetchOf_msb_of_length_eq_one s, fetchOf_lsb_of_length_le_two s, fun a ha ha' => ?_⟩
  · rw [fetchOf_eq]; rfl
  · rw [← fetchOf_byteAt i s a]
    exact readByte_writeMem_ne (fetchOf i s).mem w v ha fun h16 => ha' (hw h16)

/-- Settles O48: an error raised after the fetch. -/
theorem errorFormsFrame : Obligations.ErrorFormsFrame := by
  unfold Obligations.ErrorFormsFrame
  intro i s t hi h
  cases (exec_of_isErrorForm hi s).symm.trans h
  refine ⟨?_, fetchOf_msb_of_length_eq_one s, fetchOf_lsb_of_length_le_two s, fetchOf_byteAt i s⟩
  rw [fetchOf_eq]; rfl

/-! #### Complete effects -/

/-- Settles O20: each of the six is an error form. -/
theorem errorFormsRaiseUnresolvedAddress : Obligations.ErrorFormsRaiseUnresolvedAddress := by
  unfold Obligations.ErrorFormsRaiseUnresolvedAddress
  intro s imm8 imm
  exact ⟨(exec_of_isErrorForm (.inl ⟨_, rfl⟩) s).trans rfl, (exec_of_isErrorForm (.inr ⟨_, _, rfl⟩) s).trans rfl,
    (exec_of_isErrorForm (.inl ⟨_, rfl⟩) s).trans rfl, (exec_of_isErrorForm (.inr ⟨_, _, rfl⟩) s).trans rfl,
    (exec_of_isErrorForm (.inr ⟨_, _, rfl⟩) s).trans rfl, (exec_of_isErrorForm (.inr ⟨_, _, rfl⟩) s).trans rfl⟩

/-! The six defined loads as one register write after the fetch (R104 to R109). -/

theorem exec_loadAccAbs (addr : Word) (s : State) :
    exec (.loadAccAbs addr) s = .next ((fetchOf (.loadAccAbs addr) s).setAcc (s.byteAt addr)) :=
  congrArg (fun a => Host.Outcome.next ((fetchOf (.loadAccAbs addr) s).setAcc (s.byteAt a))) (joinBytes_hiByte_loByte addr)

theorem exec_loadAccImm (imm : Byte) (s : State) :
    exec (.loadAccImm imm) s = .next ((fetchOf (.loadAccImm imm) s).setAcc imm) := rfl

theorem exec_loadAccInd (s : State) :
    exec .loadAccInd s = .next ((fetchOf .loadAccInd s).setAcc (s.byteAt s.mar)) := rfl

theorem exec_loadMarAbs (addr : Word) (s : State) :
    exec (.loadMarAbs addr) s = .next ((fetchOf (.loadMarAbs addr) s).setMar (s.wordAt addr)) :=
  congrArg (fun a => Host.Outcome.next ((fetchOf (.loadMarAbs addr) s).setMar (s.wordAt a))) (joinBytes_hiByte_loByte addr)

theorem exec_loadMarImm (imm : Word) (s : State) :
    exec (.loadMarImm imm) s = .next ((fetchOf (.loadMarImm imm) s).setMar imm) :=
  congrArg (fun v => Host.Outcome.next ((fetchOf (.loadMarImm imm) s).setMar v)) (joinBytes_hiByte_loByte imm)

theorem exec_loadMarInd (s : State) :
    exec .loadMarInd s = .next ((fetchOf .loadMarInd s).setMar (s.wordAt s.mar)) := rfl

/-- Settles O34: in each form the fetch leaves the state of the rule. -/
theorem loadAccTakesItsOperand : Obligations.LoadAccTakesItsOperand := by
  unfold Obligations.LoadAccTakesItsOperand
  intro s addr imm8
  exact ⟨⟨_, (exec_loadAccAbs addr s).trans rfl⟩, ⟨_, (exec_loadAccImm imm8 s).trans rfl⟩,
    ⟨_, (exec_loadAccInd s).trans rfl⟩⟩

/-- Settles O35. -/
theorem loadMarImmediateTakesTheConstant : Obligations.LoadMarImmediateTakesTheConstant := by
  unfold Obligations.LoadMarImmediateTakesTheConstant
  intro s imm
  exact ⟨_, (exec_loadMarImm imm s).trans rfl⟩

/-- Settles O36. -/
theorem loadMarFromMemoryTakesTheWord : Obligations.LoadMarFromMemoryTakesTheWord := by
  unfold Obligations.LoadMarFromMemoryTakesTheWord
  intro s addr
  exact ⟨(exec_loadMarAbs addr s).trans rfl, (exec_loadMarInd s).trans rfl⟩

/-- Settles O37. -/
theorem storeAccIndirectStoresTheByte : Obligations.StoreAccIndirectStoresTheByte := by
  unfold Obligations.StoreAccIndirectStoresTheByte
  intro s
  exact ⟨_, (exec_storeAccInd s).trans rfl⟩

/-- Settles O38. -/
theorem otherStoresCompleteWithTheirWrite : Obligations.OtherStoresCompleteWithTheirWrite := by
  unfold Obligations.OtherStoresCompleteWithTheirWrite
  intro s addr
  exact ⟨(exec_storeAccAbs addr s).trans rfl, (exec_storeMarAbs addr s).trans rfl, (exec_storeMarInd s).trans rfl⟩

/-! #### A store and then a load -/

/-- After STORE MAR,[a] the word at a is MAR, at every address (R112). -/
theorem wordAt_of_exec_storeMarAbs {s t : State} {addr : Word} (hs : Memory.wf s.mem = true)
    (h : exec (.storeMarAbs addr) s = .next t) : t.wordAt addr = s.mar := by
  cases (exec_storeMarAbs addr s).symm.trans h
  exact readWord_writeWord_same (by rwa [fetchOf_mem]) addr s.mar

/-- Settles O42: the load reads what the store left at the address, whatever the register holds in between. -/
theorem storeThenLoadRoundTrips : Obligations.StoreThenLoadRoundTrips := by
  unfold Obligations.StoreThenLoadRoundTrips
  intro s t u v addr x y hs
  refine ⟨fun hst hld => ?_, fun hst hld => ?_⟩
  · cases (exec_loadAccAbs addr _).symm.trans hld
    exact (byteAt_of_exec_storeAccAbs hs hst :)
  · cases (exec_loadMarAbs addr _).symm.trans hld
    exact (wordAt_of_exec_storeMarAbs hs hst :)

end Sys2Proof.Machine

/-! ### What a branch answers (R117 to R126)

A branch jumps to its target after its fetch, or does nothing, by `branchCond`. `exec_branchInstr` says this with the condition put as any
proposition `p` about ACC that is equivalent to it; the rules of R119 to R126 and the signed comparisons are two choices of `p`. -/

namespace Sys2Proof.Machine

/-! #### The conditions (R118) -/

section
variable {acc : Byte}

theorem branchCond_brz_iff : branchCond .brz acc = true ↔ acc = 0x00#8 := beq_iff_eq

theorem branchCond_bnz_iff : branchCond .bnz acc = true ↔ acc ≠ 0x00#8 := by simp [branchCond, accZero]

theorem branchCond_blt_iff : branchCond .blt acc = true ↔ acc.getLsbD 7 = true := Iff.rfl

theorem branchCond_ble_iff : branchCond .ble acc = true ↔ acc.getLsbD 7 = true ∨ acc = 0x00#8 := by
  simp [branchCond, accNeg, accZero]

theorem branchCond_bgt_iff : branchCond .bgt acc = true ↔ acc.getLsbD 7 = false ∧ acc ≠ 0x00#8 := by
  simp [branchCond, accNeg, accZero]

theorem branchCond_bge_iff : branchCond .bge acc = true ↔ acc.getLsbD 7 = false := by simp [branchCond, accNeg]

/-! ACC read as a signed byte: bit 7 is the sign, and only the byte 0x00 has the value zero. -/

theorem getLsbD_seven_iff_toInt_neg : acc.getLsbD 7 = true ↔ acc.toInt < 0 := by
  have hmsb : acc.msb = acc.getLsbD 7 := BitVec.msb_eq_getLsbD_last acc
  rw [← hmsb, BitVec.msb_eq_toInt, decide_eq_true_eq]

theorem getLsbD_seven_eq_false_iff_toInt_nonneg : acc.getLsbD 7 = false ↔ 0 ≤ acc.toInt := by
  rw [← Bool.not_eq_true, getLsbD_seven_iff_toInt_neg, not_lt]

theorem eq_zero_iff_toInt_eq_zero : acc = 0x00#8 ↔ acc.toInt = 0 := BitVec.toInt_inj.symm

theorem branchCond_brz_iff_toInt : branchCond .brz acc = true ↔ acc.toInt = 0 :=
  branchCond_brz_iff.trans eq_zero_iff_toInt_eq_zero

theorem branchCond_bnz_iff_toInt : branchCond .bnz acc = true ↔ acc.toInt ≠ 0 :=
  branchCond_bnz_iff.trans (not_congr eq_zero_iff_toInt_eq_zero)

theorem branchCond_blt_iff_toInt : branchCond .blt acc = true ↔ acc.toInt < 0 :=
  branchCond_blt_iff.trans getLsbD_seven_iff_toInt_neg

theorem branchCond_ble_iff_toInt : branchCond .ble acc = true ↔ acc.toInt ≤ 0 := by
  rw [branchCond_ble_iff, getLsbD_seven_iff_toInt_neg, eq_zero_iff_toInt_eq_zero, le_iff_lt_or_eq]

theorem branchCond_bgt_iff_toInt : branchCond .bgt acc = true ↔ 0 < acc.toInt := by
  rw [branchCond_bgt_iff, getLsbD_seven_eq_false_iff_toInt_nonneg, ne_eq, eq_zero_iff_toInt_eq_zero]
  omega

theorem branchCond_bge_iff_toInt : branchCond .bge acc = true ↔ 0 ≤ acc.toInt :=
  branchCond_bge_iff.trans getLsbD_seven_eq_false_iff_toInt_nonneg

end

/-! #### The fetch and the jump -/

theorem branchInstr_op (y : BrType) (b : BitVec 4) (target : Word) : (branchInstr y b target).op = .br y := by
  cases y <;> rfl

section
variable {y : BrType} {b : BitVec 4} {target : Word} {s : State}

/-- The fetch of a branch latches its target (R80). -/
theorem fetchOf_branchInstr : fetchOf (branchInstr y b target) s =
    s.afterFetch (branchOpcode b (brTypeBits y)) 3 (hiByte target) (loByte target) := by
  rw [fetchOf, branchInstr_opcode, branchInstr_groups]
  rfl

variable {p : Prop} (hp : branchCond y s.acc = true ↔ p)
include hp

/-- A branch answers its fetch, with a jump to its target if its condition holds (R117). -/
theorem exec_branchInstr [Decidable p] : exec (branchInstr y b target) s =
    .next (if p then (fetchOf (branchInstr y b target) s).jump target else fetchOf (branchInstr y b target) s) := by
  have hlatch : (fetchOf (branchInstr y b target) s).latch = target := by
    rw [fetchOf_branchInstr]
    exact joinBytes_hiByte_loByte target
  simp only [exec_eq, branchInstr_op, opResult, branchResult, fetchOf_acc, hlatch, hp]

/-- Where a branch goes, with its opcode in IR and ERR as it was (R117). -/
theorem exists_exec_branchInstr [Decidable p] : ∃ t, exec (branchInstr y b target) s = .next t ∧
    t.ir = branchOpcode b (brTypeBits y) ∧ t.err = s.err ∧ t.pc = if p then target else s.pc + 3#16 := by
  refine ⟨_, exec_branchInstr hp, ?_⟩
  rw [fetchOf_branchInstr]
  split <;> exact ⟨rfl, rfl, rfl⟩

/-- The two sides of a branch, the one not taken under any `q` that says the opposite of `p`. -/
theorem pc_of_exec_branchInstr {q : Prop} (hq : ¬p ↔ q) {t : State} (h : exec (branchInstr y b target) s = .next t) :
    (p → t.pc = target ∧ t.pcx = false) ∧ (q → t.pc = s.pc + 3#16) := by
  classical
  cases (exec_branchInstr hp).symm.trans h
  refine ⟨fun hpos => ?_, fun hneg => ?_⟩
  · rw [if_pos hpos]
    exact ⟨rfl, rfl⟩
  · rw [if_neg (hq.mpr hneg), fetchOf_branchInstr]
    rfl

end

/-! #### The obligations -/

/-- Settles O46: each condition, as a comparison of the signed value, and its opposite. -/
theorem branchesCompareSignedAccWithZero : Obligations.BranchesCompareSignedAccWithZero := by
  unfold Obligations.BranchesCompareSignedAccWithZero
  intro s t b target
  exact ⟨pc_of_exec_branchInstr branchCond_brz_iff_toInt Iff.rfl, pc_of_exec_branchInstr branchCond_bnz_iff_toInt not_not,
    pc_of_exec_branchInstr branchCond_blt_iff_toInt not_lt, pc_of_exec_branchInstr branchCond_ble_iff_toInt not_le,
    pc_of_exec_branchInstr branchCond_bgt_iff_toInt not_lt, pc_of_exec_branchInstr branchCond_bge_iff_toInt not_le⟩

/-- Settles O47: a jump after the fetch, or the fetch alone. -/
theorem branchFormsFrame : Obligations.BranchFormsFrame := by
  unfold Obligations.BranchFormsFrame
  intro i y s t hop h
  obtain rfl := eq_of_exec h
  rw [hop, opResult]
  rcases branchResult_cases y (fetchOf i s) with ⟨_, hres⟩ | ⟨_, hres⟩ <;> rw [hres]
  all_goals
    refine ⟨?_, fetchOf_byteAt i s⟩
    rw [fetchOf_eq]; rfl

/-- Settles O44: the condition of each type on the bits of ACC. -/
theorem conditionalBranchesGoWhereTheRuleSays : Obligations.ConditionalBranchesGoWhereTheRuleSays := by
  unfold Obligations.ConditionalBranchesGoWhereTheRuleSays
  intro s b target
  exact ⟨exists_exec_branchInstr branchCond_brz_iff, exists_exec_branchInstr branchCond_bnz_iff,
    exists_exec_branchInstr branchCond_blt_iff, exists_exec_branchInstr branchCond_ble_iff,
    exists_exec_branchInstr branchCond_bgt_iff, exists_exec_branchInstr branchCond_bge_iff⟩

/-- Settles O45: the same conditions, with those of BRA and type 7, which do not look at ACC. -/
theorem branchesCompleteWithTheirWholeEffect : Obligations.BranchesCompleteWithTheirWholeEffect := by
  unfold Obligations.BranchesCompleteWithTheirWholeEffect
  intro s b target
  have hbra : branchCond .bra s.acc = true ↔ True := iff_of_true rfl trivial
  have hbr7 : branchCond .br7 s.acc = true ↔ False := iff_of_false Bool.false_ne_true id
  exact ⟨(exec_branchInstr hbra).trans rfl, (exec_branchInstr branchCond_brz_iff).trans rfl,
    (exec_branchInstr branchCond_bnz_iff).trans rfl, (exec_branchInstr branchCond_blt_iff).trans rfl,
    (exec_branchInstr branchCond_ble_iff).trans rfl, (exec_branchInstr branchCond_bgt_iff).trans rfl,
    (exec_branchInstr branchCond_bge_iff).trans rfl, (exec_branchInstr hbr7).trans rfl⟩

end Sys2Proof.Machine

/-! ### Where the core stops and how the driver's loop ends (R131 to R138)

`driverRun_succ_cases` says what one turn of the loop can do, the same for every fuel. With it an induction on the fuel gives the two facts
about whole runs: what holds of the state a run ends in (`driverRun_endsAsSpecified`), and that an end stays with more fuel
(`driverRun_add`). -/

namespace Sys2Proof.Machine

/-- Settles O9: with an error `step` faults; without one it answers a next state. -/
theorem errorStopsTheCore : Obligations.ErrorStopsTheCore := by
  unfold Obligations.ErrorStopsTheCore
  intro s
  constructor
  · intro hstop he
    obtain ⟨t, hnext⟩ := everyStepWithoutErrorAnswersNext s he
    cases hstop.symm.trans hnext
  · intro he
    rcases step_cases s with ⟨_, hstop⟩ | ⟨he', _⟩ | ⟨he', _⟩ | ⟨he', _⟩
    · exact hstop
    all_goals exact absurd he' he

/-! #### One turn of the loop (R136) -/

theorem haltTest_iff {halt : Byte} {s : State} :
    haltTest halt s = true ↔ s.pcx = false ∧ s.byteAt s.pc = halt := by
  simp [haltTest]

section
variable {halt : Byte} {s t : State}

theorem driverRun_of_halt (fuel : Nat) (hh : haltTest halt s = true) : driverRun halt (fuel + 1) s = .normal s :=
  if_pos hh

theorem driverRun_of_next (fuel : Nat) (hh : haltTest halt s = false) (hst : step s = .next t) :
    driverRun halt (fuel + 1) s = if t.err = .none then driverRun halt fuel t else .error t := by
  simp [driverRun, hh, hst]

theorem driverRun_of_err (fuel : Nat) (hh : haltTest halt s = false) (he : s.err ≠ .none) :
    driverRun halt (fuel + 1) s = .error s := by
  simp [driverRun, hh, (errorStopsTheCore s).mpr he]

end

/-- What a turn of the loop can do: end at the halt byte, end because the core had stopped, end in the error that the step raised, or go on
from the next state (R136, R137). -/
theorem driverRun_succ_cases (halt : Byte) (s : State) :
    (haltTest halt s = true ∧ ∀ fuel, driverRun halt (fuel + 1) s = .normal s) ∨
    (haltTest halt s = false ∧ s.err ≠ .none ∧ ∀ fuel, driverRun halt (fuel + 1) s = .error s) ∨
    (haltTest halt s = false ∧ s.err = .none ∧ ∃ t, step s = .next t ∧ t.err ≠ .none ∧
      ∀ fuel, driverRun halt (fuel + 1) s = .error t) ∨
    (haltTest halt s = false ∧ s.err = .none ∧ ∃ t, step s = .next t ∧ t.err = .none ∧
      ∀ fuel, driverRun halt (fuel + 1) s = driverRun halt fuel t) := by
  cases hh : haltTest halt s
  case true => exact .inl ⟨rfl, fun fuel => driverRun_of_halt fuel hh⟩
  case false =>
    by_cases he : s.err = .none
    · obtain ⟨t, hst⟩ := everyStepWithoutErrorAnswersNext s he
      by_cases ht : t.err = .none
      · exact .inr (.inr (.inr ⟨rfl, he, t, hst, ht, fun fuel => (driverRun_of_next fuel hh hst).trans (if_pos ht)⟩))
      · exact .inr (.inr (.inl ⟨rfl, he, t, hst, ht, fun fuel => (driverRun_of_next fuel hh hst).trans (if_neg ht)⟩))
    · exact .inr (.inl ⟨rfl, he, fun fuel => driverRun_of_err fuel hh he⟩)

/-! #### The end of a run (R137) -/

/-- What R137 says of the end of a run that started in `s₀`: its state is reached by steps, and it stands at the halt byte without an error,
or has one; a run that has not ended has none. -/
def RunEnd.AsSpecified (halt : Byte) (s₀ : State) : RunEnd → Prop
  | .normal t => Reaches s₀ t ∧ t.err = .none ∧ haltTest halt t = true
  | .error t => Reaches s₀ t ∧ t.err ≠ .none
  | .outOfFuel t => Reaches s₀ t ∧ t.err = .none

theorem driverRun_endsAsSpecified (halt : Byte) (fuel : Nat) {s₀ s : State} (hr : Reaches s₀ s) (he : s.err = .none) :
    (driverRun halt fuel s).AsSpecified halt s₀ := by
  induction fuel generalizing s with
  | zero => exact ⟨hr, he⟩
  | succ fuel ih =>
    rcases driverRun_succ_cases halt s with
      ⟨hh, hrun⟩ | ⟨_, hne, _⟩ | ⟨_, _, t, hst, ht, hrun⟩ | ⟨_, _, t, hst, ht, hrun⟩
    · rw [hrun]
      exact ⟨hr, he, hh⟩
    · exact absurd he hne
    · rw [hrun]
      exact ⟨hr.step hst, ht⟩
    · rw [hrun]
      exact ih (hr.step hst) ht

/-- Settles O58: the end of a run, and the halt test in its first turn. -/
theorem normalEndStandsAtTheHaltByte : Obligations.NormalEndStandsAtTheHaltByte := by
  unfold Obligations.NormalEndStandsAtTheHaltByte
  intro halt fuel s t he
  constructor
  · intro hrun
    have hend := driverRun_endsAsSpecified halt fuel .start he
    rw [hrun] at hend
    obtain ⟨hr, ht, hh⟩ := hend
    exact ⟨hr, ht, haltTest_iff.mp hh⟩
  · intro hx hb
    exact driverRun_of_halt fuel (haltTest_iff.mpr ⟨hx, hb⟩)

/-- Settles O59: the end of a run, with O9 for the step after it. -/
theorem errorEndHasAnError : Obligations.ErrorEndHasAnError := by
  unfold Obligations.ErrorEndHasAnError
  intro halt fuel s t he hrun
  have hend := driverRun_endsAsSpecified halt fuel .start he
  rw [hrun] at hend
  obtain ⟨hr, ht⟩ := hend
  exact ⟨hr, ht, (errorStopsTheCore t).mpr ht⟩

/-! #### More fuel (R138) -/

/-- A run that has ended within its fuel does not see any more of it. -/
theorem driverRun_add {halt : Byte} {fuel : Nat} (more : Nat) {s : State}
    (hend : ∀ t, driverRun halt fuel s ≠ .outOfFuel t) : driverRun halt (fuel + more) s = driverRun halt fuel s := by
  induction fuel generalizing s with
  | zero => exact absurd rfl (hend s)
  | succ fuel ih =>
    rw [Nat.add_right_comm]
    rcases driverRun_succ_cases halt s with
      ⟨_, hrun⟩ | ⟨_, _, hrun⟩ | ⟨_, _, t, _, _, hrun⟩ | ⟨_, _, t, _, _, hrun⟩
    case inr.inr.inr =>
      rw [hrun, hrun]
      exact ih (hrun fuel ▸ hend)
    all_goals rw [hrun, hrun]

/-- Settles O60: neither end is that of a run out of fuel. -/
theorem moreFuelKeepsTheEnd : Obligations.MoreFuelKeepsTheEnd := by
  unfold Obligations.MoreFuelKeepsTheEnd
  intro halt fuel more s t
  constructor
  · intro hrun
    exact (driverRun_add more (by simp [hrun])).trans hrun
  · intro hrun
    exact (driverRun_add more (by simp [hrun])).trans hrun

end Sys2Proof.Machine

/-! ### Where errors come from and what they leave (R139 to R147)

`step_err_cases` says what a step without an error before it can do: fail its fetch with OutOfBounds, execute an error form, which raises
UnresolvedAddress, or execute another instruction, which raises nothing. Each claim about errors is a look at these three outcomes. -/

namespace Sys2Proof.Machine

/-- An executed instruction raises UnresolvedAddress after its fetch if it is an error form, and no error otherwise (R114, R115, R141). -/
theorem exec_err_cases {i : Instr} {s t : State} (he : s.err = .none) (h : exec i s = .next t) :
    (i.isErrorForm ∧ t = (fetchOf i s).raise .unresolvedAddress (i.opcode.setWidth 17)) ∨
    (¬i.isErrorForm ∧ t.err = .none) := by
  by_cases hi : i.isErrorForm
  · cases (exec_of_isErrorForm hi s).symm.trans h
    exact .inl ⟨hi, rfl⟩
  · have hu : (fetchOf i s).err = .none := (fetchOf_err i s).trans he
    refine .inr ⟨hi, ?_⟩
    cases execEffect_of_exec h with
    | raise hform => exact absurd hform hi
    | setAcc | setMar | store | jump | keep => exact hu

/-- What a step can do about errors: raise OutOfBounds for a failed fetch, raise UnresolvedAddress by an error form, or neither (R131, R139). -/
theorem step_err_cases {s t : State} (he : s.err = .none) (hst : step s = .next t) :
    (∃ info, fetchInstr s = .outOfBounds info ∧ t = s.raise .outOfBounds info) ∨
    (∃ i, fetchInstr s = .instr i ∧ i.isErrorForm ∧
      t = (fetchOf i s).raise .unresolvedAddress (i.opcode.setWidth 17)) ∨
    (∃ i, fetchInstr s = .instr i ∧ ¬i.isErrorForm ∧ t.err = .none) := by
  rcases step_cases s with ⟨hne, _⟩ | ⟨_, i, hf, h⟩ | ⟨_, code, hf, _⟩ | ⟨_, info, hf, h⟩
  · exact absurd he hne
  · rcases exec_err_cases he (h.symm.trans hst) with hraise | hnone
    · exact .inr (.inl ⟨i, hf, hraise⟩)
    · exact .inr (.inr ⟨i, hf, hnone⟩)
  · exact absurd hf (fetchInstr_ne_unclassified s code)
  · cases h.symm.trans hst
    exact .inl ⟨info, hf, rfl⟩

/-! #### The bounds tests and the six opcodes -/

/-- A fetch fails only by one of its two bounds tests (R74, R77). -/
theorem outside_of_fetchInstr_outOfBounds {s : State} {info : ErrInfo} (hf : fetchInstr s = .outOfBounds info) :
    s.pcx = true ∨ s.pc.toNat + trailingCount (s.byteAt s.pc) > 0xFFFF := by
  rcases fetchInstr_cases s with ⟨hx, _⟩ | ⟨_, hb, _⟩ | ⟨_, _, i, _, _, h⟩ | ⟨_, _, e, _, h⟩
  · exact .inl hx
  · exact .inr hb
  all_goals cases hf.symm.trans h

/-- A fetch that finds an instruction has passed both bounds tests. -/
theorem not_outside_of_fetchInstr {s : State} {i : Instr} (hf : fetchInstr s = .instr i) :
    ¬(s.pcx = true ∨ s.pc.toNat + trailingCount (s.byteAt s.pc) > 0xFFFF) := by
  obtain ⟨hx, hb, hlen, _⟩ := encode_of_fetchInstr hf
  rintro (hx' | hb')
  · cases hx.symm.trans hx'
  · omega

/-- The six opcodes have the immediate method of a store, or method 3 (R141). -/
theorem fields_of_mem_unresolvedOpcodes : ∀ code ∈ unresolvedOpcodes,
    family code = .mem ∧ (directionOf code = .store ∧ methodOf code = .imm ∨ methodOf code = .undef) := by
  decide

/-- The error forms are the instructions with the six opcodes of R141. -/
theorem isErrorForm_iff_opcode_mem {i : Instr} (hwf : i.wellFormed = true) :
    i.isErrorForm ↔ i.opcode ∈ unresolvedOpcodes := by
  refine ⟨opcode_mem_unresolvedOpcodes, fun hmem => ?_⟩
  obtain ⟨hfam, hcause⟩ := fields_of_mem_unresolvedOpcodes _ hmem
  have hfields := hasFields_opcode hwf
  cases hop : i.op with
  | alu | br =>
    rw [hop] at hfields
    obtain ⟨hfam', _⟩ := hfields
    cases hfam.symm.trans hfam'
  | mem d r m =>
    rw [hop] at hfields
    obtain ⟨_, rfl, _, rfl⟩ := hfields
    obtain ⟨hd, hm⟩ | hm := hcause
    · exact .inl ⟨r, by rw [hop, hd, hm]⟩
    · exact .inr ⟨directionOf i.opcode, r, by rw [hop, hm]⟩

/-- A fetched instruction is an error form exactly if the byte at PC is one of the six opcodes (R75, R141). -/
theorem isErrorForm_iff_of_fetchInstr {s : State} {i : Instr} (hf : fetchInstr s = .instr i) :
    i.isErrorForm ↔ s.byteAt s.pc ∈ unresolvedOpcodes :=
  opcode_of_fetchInstr hf ▸ isErrorForm_iff_opcode_mem (wellFormed_of_fetchInstr hf)

/-! #### The claims -/

/-- Settles O17: the bounds tests tell the first of the three outcomes from the others, and the byte at PC tells these two apart. -/
theorem errorsHaveOnlyTheirCauses : Obligations.ErrorsHaveOnlyTheirCauses := by
  unfold Obligations.ErrorsHaveOnlyTheirCauses
  intro s t he hst
  rcases step_err_cases he hst with ⟨info, hf, rfl⟩ | ⟨i, hf, hform, rfl⟩ | ⟨i, hf, hform, ht⟩
  · have hout := outside_of_fetchInstr_outOfBounds hf
    exact ⟨iff_of_true rfl hout, iff_of_false nofun fun ⟨hin, _⟩ => hin hout⟩
  · have hin := not_outside_of_fetchInstr hf
    have hmem := (isErrorForm_iff_of_fetchInstr hf).mp hform
    exact ⟨iff_of_false nofun hin, iff_of_true rfl ⟨hin, hmem⟩⟩
  · have hin := not_outside_of_fetchInstr hf
    have hmem := mt (isErrorForm_iff_of_fetchInstr hf).mpr hform
    rw [ht]
    exact ⟨iff_of_false nofun hin, iff_of_false nofun fun ⟨_, h⟩ => hmem h⟩

/-- Settles O18: only a failed fetch raises OutOfBounds, and it writes ERR and ERR_INFO alone. -/
theorem outOfBoundsChangesNothingElse : Obligations.OutOfBoundsChangesNothingElse := by
  unfold Obligations.OutOfBoundsChangesNothingElse
  intro s t he hst ht
  rcases step_err_cases he hst with ⟨info, _, rfl⟩ | ⟨i, _, _, rfl⟩ | ⟨i, _, _, hnone⟩
  · rfl
  · cases ht
  · cases hnone.symm.trans ht

/-- Settles O19: only an error form raises UnresolvedAddress, and what it leaves beside the error is what its fetch left. -/
theorem unresolvedAddressKeepsAccMarMemory : Obligations.UnresolvedAddressKeepsAccMarMemory := by
  unfold Obligations.UnresolvedAddressKeepsAccMarMemory
  intro s t he hst ht
  rcases step_err_cases he hst with ⟨info, _, rfl⟩ | ⟨i, hf, _, rfl⟩ | ⟨i, _, _, hnone⟩
  · cases ht
  · have hpc : (fetchOf i s).pc = s.pc + BitVec.ofNat 16 (1 + trailingCount (s.byteAt s.pc)) := by
      rw [fetchOf, fetched_pc, length_groupBytes_of_fetchInstr hf]
    have hir : (fetchOf i s).ir = i.opcode := fetchOf_ir i s
    exact ⟨fetchOf_acc i s, fetchOf_mar i s, fetchOf_byteAt i s, hir.trans (opcode_of_fetchInstr hf), hpc,
      congrArg (BitVec.setWidth 17) hir.symm⟩
  · cases hnone.symm.trans ht

end Sys2Proof.Machine

/-! ### What the values of IR, MSB and LSB before a step can affect (R154, R160)

A fetch sets IR and as many bytes of the latch, MSB first, as the instruction has trailing bytes (`fetchOf_agreeOnFetched`), and no execute
phase reads more of the latch than that (`latchBytes_le`). A step therefore keeps `SameButLatch`, and so does a whole run. -/

namespace Sys2Proof

/-- The bytes of the latch, MSB first, that an execute phase takes operands from (R61, R86 to R90, R104 to R113, R117). -/
def Op.latchBytes : Op → Nat
  | .alu _ .abs _ => 2
  | .alu _ _ .abs => 2
  | .alu _ .acc .imm => 1
  | .alu _ _ .imm => 2
  | .alu _ _ _ => 0
  | .mem _ _ .abs => 2
  | .mem .load .acc .imm => 1
  | .mem .load .mar .imm => 2
  | .mem _ _ _ => 0
  | .br _ => 2

/-- An instruction has the trailing bytes that its execute phase takes from the latch. -/
theorem latchBytes_le (i : Instr) : i.op.latchBytes ≤ (groupBytes i.groups).length := by
  cases i <;> exact Nat.le_of_ble_eq_true rfl

end Sys2Proof

namespace Sys2Proof.Machine

/-! #### The relation, and what it leaves the same -/

/-- `s` with other values of the elements that `SameButLatch` leaves free. -/
def State.withIrLatch (s : State) (code hi lo : Byte) : State := { s with ir := code, msb := hi, lsb := lo }

theorem sameButLatch_withIrLatch (s : State) (code hi lo : Byte) : SameButLatch s (s.withIrLatch code hi lo) :=
  ⟨rfl, rfl, rfl, rfl, rfl, rfl, rfl⟩

theorem eq_withIrLatch {s t : State} (h : SameButLatch s t) : t = s.withIrLatch t.ir t.msb t.lsb := by
  cases s
  cases t
  obtain ⟨rfl, rfl, rfl, rfl, rfl, rfl, rfl⟩ := h
  rfl

section
variable {s t : State} (h : SameButLatch s t)
include h

theorem err_of_sameButLatch : t.err = s.err := by
  rw [eq_withIrLatch h]
  rfl

/-- The read side of fetch looks at PC, PCX and memory alone (R73). -/
theorem fetchInstr_of_sameButLatch : fetchInstr t = fetchInstr s := by
  rw [eq_withIrLatch h]
  rfl

theorem haltTest_of_sameButLatch (halt : Byte) : haltTest halt t = haltTest halt s := by
  rw [eq_withIrLatch h]
  rfl

theorem raise_sameButLatch (kind : Err) (info : ErrInfo) : SameButLatch (s.raise kind info) (t.raise kind info) := by
  rw [eq_withIrLatch h]
  exact sameButLatch_withIrLatch _ _ _ _

theorem fetchOf_sameButLatch (i : Instr) : SameButLatch (fetchOf i s) (fetchOf i t) := by
  rw [eq_withIrLatch h, fetchOf_eq i s, fetchOf_eq i (s.withIrLatch t.ir t.msb t.lsb)]
  exact sameButLatch_withIrLatch _ _ _ _

end

/-! #### What a fetch determines is all that execute reads -/

/-- The same IR, and the same first `n` bytes of the latch. -/
def AgreeOnFetched (n : Nat) (u v : State) : Prop :=
  u.ir = v.ir ∧ (1 ≤ n → u.msb = v.msb) ∧ (2 ≤ n → u.lsb = v.lsb)

theorem AgreeOnFetched.mono {m n : Nat} {u v : State} (h : AgreeOnFetched n u v) (hmn : m ≤ n) :
    AgreeOnFetched m u v := by
  obtain ⟨hir, hmsb, hlsb⟩ := h
  exact ⟨hir, fun hm => hmsb (hm.trans hmn), fun hm => hlsb (hm.trans hmn)⟩

/-- Whatever the state before it, a fetch sets IR and a latch byte for each trailing byte (R75, R78 to R80, R82). -/
theorem fetchOf_agreeOnFetched (i : Instr) (s t : State) :
    AgreeOnFetched (groupBytes i.groups).length (fetchOf i s) (fetchOf i t) := by
  refine ⟨by rw [fetchOf_ir, fetchOf_ir], ?_⟩
  obtain ⟨hms, hls⟩ := fetchOf_latch i s
  obtain ⟨hmt, hlt⟩ := fetchOf_latch i t
  rw [hms, hls, hmt, hlt]
  rcases groups_cases i with hg | ⟨v, hg⟩ | ⟨v, hg⟩ | ⟨v, w, hg⟩ <;> rw [hg] <;> simp

/-- An execute phase does not look at IR or the latch beyond the bytes it takes operands from: it takes none, or MSB alone, or both. -/
theorem opResult_withIrLatch {o : Op} {u : State} {hi lo : Byte} (hmsb : 1 ≤ o.latchBytes → u.msb = hi)
    (hlsb : 2 ≤ o.latchBytes → u.lsb = lo) :
    opResult o (u.withIrLatch u.ir hi lo) = (opResult o u).withIrLatch u.ir hi lo := by
  have both (h : o.latchBytes = 2) : u.msb = hi ∧ u.lsb = lo := ⟨hmsb (by omega), hlsb h.ge⟩
  rcases o with ⟨f, d, c⟩ | ⟨_ | _, r, m⟩ | y
  case alu =>
    cases d with
    | abs => obtain ⟨rfl, rfl⟩ := both rfl; rfl
    | ind | mar =>
      cases c with
      | ind | acc => rfl
      | imm | abs => obtain ⟨rfl, rfl⟩ := both rfl; rfl
    | acc =>
      cases c with
      | ind | acc => rfl
      | imm => obtain rfl := hmsb le_rfl; rfl
      | abs => obtain ⟨rfl, rfl⟩ := both rfl; rfl
  case mem.load =>
    cases m with
    | abs => obtain ⟨rfl, rfl⟩ := both rfl; cases r <;> rfl
    | ind | undef => cases r <;> rfl
    | imm =>
      cases r with
      | acc => obtain rfl := hmsb le_rfl; rfl
      | mar => obtain ⟨rfl, rfl⟩ := both rfl; rfl
  case mem.store =>
    cases m with
    | abs => obtain ⟨rfl, rfl⟩ := both rfl; cases r <;> rfl
    | ind | imm | undef => cases r <;> rfl
  case br =>
    obtain ⟨rfl, rfl⟩ := both rfl
    exact (apply_ite (State.withIrLatch · u.ir u.msb u.lsb) (branchCond y u.acc = true) (u.jump u.latch) u).symm

/-- Execute phases that find what a fetch determines the same keep `SameButLatch`. -/
theorem opResult_sameButLatch {o : Op} {u v : State} (h : SameButLatch u v) (ha : AgreeOnFetched o.latchBytes u v) :
    SameButLatch (opResult o u) (opResult o v) := by
  obtain ⟨hir, hmsb, hlsb⟩ := ha
  rw [eq_withIrLatch h, ← hir, opResult_withIrLatch hmsb hlsb]
  exact sameButLatch_withIrLatch _ _ _ _

/-- Settles O53: both fetches find the same thing, and what an execute phase reads of IR and the latch its fetch has set. -/
theorem latchAndIrDoNotAffectAStep : Obligations.LatchAndIrDoNotAffectAStep := by
  unfold Obligations.LatchAndIrDoNotAffectAStep
  intro s t s' hst h
  have hft := fetchInstr_of_sameButLatch hst
  have het := err_of_sameButLatch hst
  rcases step_cases s with ⟨_, hs⟩ | ⟨he, i, hf, hs⟩ | ⟨_, code, hf, _⟩ | ⟨he, info, hf, hs⟩
  · cases hs.symm.trans h
  · obtain rfl := eq_of_exec (hs.symm.trans h)
    exact ⟨_, (step_of_fetchInstr (het.trans he) (hft.trans hf)).trans (exec_eq i t),
      opResult_sameButLatch (fetchOf_sameButLatch hst i) ((fetchOf_agreeOnFetched i s t).mono (latchBytes_le i))⟩
  · exact absurd hf (fetchInstr_ne_unclassified s code)
  · cases hs.symm.trans h
    exact ⟨_, step_of_outOfBounds (het.trans he) (hft.trans hf), raise_sameButLatch hst .outOfBounds info⟩

/-! #### Runs (R136, R137) -/

/-- Two runs end in the same way, in states that agree on everything but IR, MSB and LSB. -/
inductive SameEnd : RunEnd → RunEnd → Prop where
  | normal {s t : State} (h : SameButLatch s t) : SameEnd (.normal s) (.normal t)
  | error {s t : State} (h : SameButLatch s t) : SameEnd (.error s) (.error t)
  | outOfFuel {s t : State} (h : SameButLatch s t) : SameEnd (.outOfFuel s) (.outOfFuel t)

/-- The second run takes each turn of the loop as the first does, since halt test, ERR and step agree. -/
theorem driverRun_sameEnd (halt : Byte) (fuel : Nat) {s t : State} (h : SameButLatch s t) :
    SameEnd (driverRun halt fuel s) (driverRun halt fuel t) := by
  induction fuel generalizing s t with
  | zero => exact .outOfFuel h
  | succ fuel ih =>
    have hht := haltTest_of_sameButLatch h halt
    rcases driverRun_succ_cases halt s with
      ⟨hh, hrun⟩ | ⟨hh, he, hrun⟩ | ⟨hh, _, s', hs, he, hrun⟩ | ⟨hh, _, s', hs, he, hrun⟩ <;> rw [hrun]
    · rw [driverRun_of_halt fuel (hht.trans hh)]
      exact .normal h
    · rw [driverRun_of_err fuel (hht.trans hh) (by rwa [err_of_sameButLatch h])]
      exact .error h
    · obtain ⟨t', ht, h'⟩ := latchAndIrDoNotAffectAStep s t s' h hs
      rw [driverRun_of_next fuel (hht.trans hh) ht, if_neg (by rwa [err_of_sameButLatch h'])]
      exact .error h'
    · obtain ⟨t', ht, h'⟩ := latchAndIrDoNotAffectAStep s t s' h hs
      rw [driverRun_of_next fuel (hht.trans hh) ht, if_pos ((err_of_sameButLatch h').trans he)]
      exact ih h'

/-- Settles O54, by induction on the fuel with O53 for each step. -/
theorem launchLatchAndIrDoNotAffectARun : Obligations.LaunchLatchAndIrDoNotAffectARun := by
  unfold Obligations.LaunchLatchAndIrDoNotAffectARun
  intro halt fuel s t h
  have hend := driverRun_sameEnd halt fuel h
  generalize driverRun halt fuel s = a, driverRun halt fuel t = b at hend ⊢
  cases hend with
  | normal h' | error h' | outOfFuel h' => exact h'

/-! ### The number of byte accesses (R163) -/

theorem length_fetchCells (p : Word) (n : Nat) : (fetchCells p n).length = n := by
  induction n generalizing p with
  | zero => rfl
  | succ n ih => rw [fetchCells, List.length_cons, ih]

theorem length_cellsAt (w : Width) (a : Word) : (cellsAt w a).length = w.bits / 8 := by
  cases w <;> simp [cellsAt, Width.bits]

theorem length_destCells (d : Dest) (w : Width) (s : State) :
    (destCells d w s).length = if d = .ind ∨ d = .abs then w.bits / 8 else 0 := by
  cases d with
  | ind | abs => exact length_cellsAt w _
  | acc | mar => rfl

theorem length_srcCells (c : Src) (w : Width) (s : State) :
    (srcCells c w s).length = if c = .ind ∨ c = .abs then w.bits / 8 else 0 := by
  cases c with
  | ind | abs => exact length_cellsAt w _
  | acc | imm => rfl

/-- A transfer by a method with an address moves 1 byte for ACC and 2 for MAR (R103). -/
theorem length_transferCells (r : MemReg) {m : Method} (hm : m = .abs ∨ m = .ind) (s : State) :
    (transferCells r m s).length = if r = .acc then 1 else 2 := by
  obtain rfl | rfl := hm <;> cases r <;> rfl

/-- A transfer by one of the other methods touches nothing. -/
theorem transferCells_eq_nil (r : MemReg) {m : Method} (hm : m = .imm ∨ m = .undef) (s : State) :
    transferCells r m s = [] := by
  obtain rfl | rfl := hm <;> rfl

/-- Settles O57: the counts of the cells an instruction's operands name. -/
theorem accessCountsFollowTheFormula : Obligations.AccessCountsFollowTheFormula := by
  unfold Obligations.AccessCountsFollowTheFormula
  intro i s f d c r y
  have hread : (readCells (.alu f d c) s).length = _ :=
    List.length_append.trans (congrArg₂ (· + ·) (length_destCells d _ s) (length_srcCells c _ s))
  exact ⟨length_fetchCells s.pc i.length, hread, length_destCells d _ s,
    fun m hm => ⟨length_transferCells r hm s, length_transferCells r hm s⟩,
    fun m hm => ⟨transferCells_eq_nil r hm s, transferCells_eq_nil r hm s⟩,
    fun _ => ⟨rfl, rfl⟩, rfl, rfl⟩

end Sys2Proof.Machine
